-- ==== Sys2Proof/Word.lean ====
section
/-! DEFINITION. The word types of the block: the 16-bit register word (rule R40), the 32-bit and 48-bit
elements seen through consecutive words (rule R41), the 64-bit event word (rule R60) and the override word
(rule R74). A register of type int16 or int32 is held as its two's complement pattern and read as an integer
by `BitVec.toInt`; a uint is read by `BitVec.toNat` (rules R6 and R99). -/

namespace Sys2Proof

/-- One word of the register space, and every 16-bit register (rule R40). -/
abbrev Word := BitVec 16

/-- A 32-bit element: `TMR`, `PERIOD`, `MA_AVG`, `TGT_DUTY`, `ID_DUTY`, `OFFS_ACC`, `LPF_ACC`. -/
abbrev DWord := BitVec 32

/-- The 48-bit accumulator `MA_ACC` (rule R21). -/
abbrev Acc48 := BitVec 48

/-- The event word `EV[63:0]` (rule R60). -/
abbrev EventWord := BitVec 64

/-- An override word; the block copies it and never interprets it (rule R74). -/
abbrev Ovr := BitVec 16

/-- Three override words, channels 0, 1, 2 (rule R25: the one row shape of all five tables). -/
abbrev OvrRow := Vector Ovr 3

/-- Rows 0 to 6 indexed by hall code or commutation sector: `RUN_TABLE` and `ID_MAP` (rules R24 and R76). -/
abbrev SectorTable := Vector OvrRow 7

/-- Six rows: `SV_TABLE` and `ID_BLDC_TABLE` by vector index 0..5, `BLDC_CONST_TABLE` by sector 1..6 (rule R156). -/
abbrev SixRows := Vector OvrRow 6

end Sys2Proof
end

