-- ==== Sys2Proof/Syntax.lean ====
section
/-! DEFINITION. `Instr`: the operations an event word selects, one constructor per row of
spec/opcode_table.json, in the table's order (rules R60 to R65, R69 and R77). The block executes events; they
take the place of instructions (rule R1). -/

namespace Sys2Proof

/-- One decoded event. Fields are the bit fields of the formats of rules R61 to R64. -/
inductive Instr where
  /-- `NOPEV`: all 64 bits zero (rule R166). -/
  | nopev
  /-- `RESET`: class 0xF, all other bits zero (rule R165). -/
  | reset
  /-- `TICK`: `code` = `EV[50:48]`, `ibus` = `EV[47:32]`, `pot` = `EV[31:16]`, `per` = `EV[15:0]` (rules R61, R167). -/
  | tick (code : BitVec 3) (ibus pot per : Word)
  /-- `TCLK`: the free-running timer advances by `n` = `EV[31:0]` (rules R62, R114). -/
  | tclk (n : DWord)
  /-- `WR` to `CMD` with data 0: `NOP` (rule R171). -/
  | cmdNop
  /-- `WR` to `CMD` with data 1: `INIT` (rule R175). -/
  | cmdInit
  /-- `WR` to `CMD` with data 2: `ID_START` (rule R150). -/
  | cmdIdStart
  /-- `WR` to `CMD` with data 3: `ID_HANDOVER` (rule R153). -/
  | cmdIdHandover
  /-- `WR` to `CMD` with data 4: `TBL_LOAD_CONST` (rule R155). -/
  | cmdTblLoadConst
  /-- `WR` to `CMD` with data 5: `TBL_LOAD_ID` (rule R154). -/
  | cmdTblLoadId
  /-- `WR` to `CMD` with data 6: `CTRL_RESET` (rule R177). -/
  | cmdCtrlReset
  /-- `WR` to `CMD` with data 7: `CTRL_FAULT` (rule R178). -/
  | cmdCtrlFault
  /-- `WR` to `CMD` with a reserved code, 0x0008 to 0xFFFF (rule R173). -/
  | cmdRsvd (code : Word)
  /-- `WR CTRL` (address 0x01; rules R45, R169). -/
  | wrCtrl (data : Word)
  /-- `WR STATUS` (address 0x02; rules R45, R169). -/
  | wrStatus (data : Word)
  /-- `WR` to `RUN_TABLE`, first table row: address 0x80 + `lo` (0x80 to 0x8F). -/
  | wrTbl8x (lo : BitVec 4) (data : Word)
  /-- `WR` to `RUN_TABLE`, second table row: address 0x90 + `lo` (0x90 to 0x93). -/
  | wrTbl9x (lo : BitVec 2) (data : Word)
  /-- `WR` to `RUN_TABLE`, third table row: address 0x94. -/
  | wrTbl94 (data : Word)
  /-- `WR` to a read-only or unmapped address (rule R46). -/
  | wrRo (addr : BitVec 8) (data : Word)
  /-- `RD`: read the word at `addr` into `RD_DATA` (rules R64, R170). -/
  | rd (addr : BitVec 8)
  /-- `RSVD`: every word that matched no earlier row (rules R65, R179). Rule R179 gives it no operands; that it keeps
  the word is the model's choice (notes/assumptions/7.md, DEDUCED). -/
  | rsvd (word : EventWord)
deriving DecidableEq, Repr

end Sys2Proof
end

