-- ==== Sys2Proof/WellFormed.lean ====
section
/-! DEFINITION. When an `Instr` is one the decoder can produce: the three rows that take "any other" value exclude
the values of the rows before them (rule R77: the first row that matches is the operation). Every other field is
limited by its type. -/

namespace Sys2Proof

/-- The register addresses a `WR` can reach: `CMD`, `CTRL`, `STATUS` and the 21 words of `RUN_TABLE` (rule R45). -/
def writable (addr : BitVec 8) : Bool :=
  addr == 0x00 || addr == 0x01 || addr == 0x02 || (0x80 ≤ addr.toNat && addr.toNat ≤ 0x94)

/-- A reserved command code is none of the eight of rule R69. -/
def reservedCommand (code : Word) : Bool := 8 ≤ code.toNat

/-- A word is reserved when it is of none of the six valid forms (rules R65 and R168). -/
def reservedWord (w : EventWord) : Bool :=
  !(w == 0 || w == 0xF000000000000000
    || (w.extractLsb' 60 4 == 1 && w.extractLsb' 51 9 == 0)
    || (w.extractLsb' 60 4 == 2 && w.extractLsb' 32 28 == 0)
    || (w.extractLsb' 60 4 == 3 && w.extractLsb' 24 36 == 0)
    || (w.extractLsb' 60 4 == 4 && w.extractLsb' 24 36 == 0 && w.extractLsb' 0 16 == 0))

/-- Well-formed: the operand lies in the row's own space. -/
def Instr.wf : Instr → Bool
  | .cmdRsvd code => reservedCommand code
  | .wrRo addr _ => !writable addr
  | .rsvd word => reservedWord word
  | .nopev | .reset | .tick .. | .tclk _ | .cmdNop | .cmdInit | .cmdIdStart | .cmdIdHandover
  | .cmdTblLoadConst | .cmdTblLoadId | .cmdCtrlReset | .cmdCtrlFault | .wrCtrl _ | .wrStatus _
  | .wrTbl8x .. | .wrTbl9x .. | .wrTbl94 _ | .rd _ => true

end Sys2Proof
end

