-- ==== Sys2Proof/Decode.lean ====
section
/-! DEFINITION. The decoder of an event word (rules R60 to R65, R69 and R168), total on every 64-bit word: a word of
no valid form is the operation `RSVD`, by name. After it the encoder, written from the same formats, and the rows
of spec/opcode_table.json as data (rule R77), which the decoder is compared with. -/

namespace Sys2Proof

/-- The class `EV[63:60]` (rule R60). -/
def eventClass (w : EventWord) : BitVec 4 := w.extractLsb' 60 4

/-- The operation of a `WR` to `CMD` by its 16-bit code (rule R69). -/
def decodeCommand (v : Word) : Instr :=
  if v = 0 then .cmdNop
  else if v = 1 then .cmdInit
  else if v = 2 then .cmdIdStart
  else if v = 3 then .cmdIdHandover
  else if v = 4 then .cmdTblLoadConst
  else if v = 5 then .cmdTblLoadId
  else if v = 6 then .cmdCtrlReset
  else if v = 7 then .cmdCtrlFault
  else .cmdRsvd v

/-- The operation of a well-formed `WR` by its address (rules R45, R46 and R77). -/
def decodeWrite (addr : BitVec 8) (data : Word) : Instr :=
  if addr = 0x00 then decodeCommand data
  else if addr = 0x01 then .wrCtrl data
  else if addr = 0x02 then .wrStatus data
  else if addr.extractLsb' 4 4 = 0x8 then .wrTbl8x (addr.extractLsb' 0 4) data
  else if addr.extractLsb' 2 6 = 0x24 then .wrTbl9x (addr.extractLsb' 0 2) data
  else if addr = 0x94 then .wrTbl94 data
  else .wrRo addr data

/-- The decode of rule R168, with the `WR` branch split as rule R77 splits it. -/
def decode (w : EventWord) : Instr :=
  if w = 0x0000000000000000 then .nopev
  else if w = 0xF000000000000000 then .reset
  else if eventClass w = 0x1 ∧ w.extractLsb' 51 9 = 0 then
    .tick (w.extractLsb' 48 3) (w.extractLsb' 32 16) (w.extractLsb' 16 16) (w.extractLsb' 0 16)
  else if eventClass w = 0x2 ∧ w.extractLsb' 32 28 = 0 then .tclk (w.extractLsb' 0 32)
  else if eventClass w = 0x3 ∧ w.extractLsb' 24 36 = 0 then
    decodeWrite (w.extractLsb' 16 8) (w.extractLsb' 0 16)
  else if eventClass w = 0x4 ∧ w.extractLsb' 24 36 = 0 ∧ w.extractLsb' 0 16 = 0 then
    .rd (w.extractLsb' 16 8)
  else .rsvd w

/-- Format T (rule R61). -/
def encodeTick (code : BitVec 3) (ibus pot per : Word) : EventWord :=
  0x1#4 ++ 0#9 ++ code ++ ibus ++ pot ++ per

/-- Format C (rule R62). -/
def encodeTclk (n : DWord) : EventWord := 0x2#4 ++ 0#28 ++ n

/-- Format W (rule R63). -/
def encodeWr (addr : BitVec 8) (data : Word) : EventWord := 0x3#4 ++ 0#36 ++ addr ++ data

/-- Format R (rule R64). -/
def encodeRd (addr : BitVec 8) : EventWord := 0x4#4 ++ 0#36 ++ addr ++ 0#16

/-- The event word of a well-formed operation (rules R61 to R64, R69 and R80). -/
def encode : Instr → EventWord
  | .nopev => 0x0000000000000000
  | .reset => 0xF000000000000000
  | .tick code ibus pot per => encodeTick code ibus pot per
  | .tclk n => encodeTclk n
  | .cmdNop => encodeWr 0x00 0x0000
  | .cmdInit => encodeWr 0x00 0x0001
  | .cmdIdStart => encodeWr 0x00 0x0002
  | .cmdIdHandover => encodeWr 0x00 0x0003
  | .cmdTblLoadConst => encodeWr 0x00 0x0004
  | .cmdTblLoadId => encodeWr 0x00 0x0005
  | .cmdCtrlReset => encodeWr 0x00 0x0006
  | .cmdCtrlFault => encodeWr 0x00 0x0007
  | .cmdRsvd code => encodeWr 0x00 code
  | .wrCtrl data => encodeWr 0x01 data
  | .wrStatus data => encodeWr 0x02 data
  | .wrTbl8x lo data => encodeWr (0x8#4 ++ lo) data
  | .wrTbl9x lo data => encodeWr (0x24#6 ++ lo) data
  | .wrTbl94 data => encodeWr 0x94 data
  | .wrRo addr data => encodeWr addr data
  | .rd addr => encodeRd addr
  | .rsvd word => word

/-- One row of spec/opcode_table.json: the word is the row's operation when `(EV and mask) = match`. -/
structure OpcodeRow where
  /-- the row's "match" (here `bits`: `match` is a Lean keyword). -/
  bits : EventWord
  /-- the row's "mask". -/
  mask : EventWord
deriving DecidableEq, Repr

/-- The 21 rows of spec/opcode_table.json, in its order (rule R77). -/
def opcodeRows : List OpcodeRow :=
  [⟨0x0000000000000000, 0xFFFFFFFFFFFFFFFF⟩, ⟨0xF000000000000000, 0xFFFFFFFFFFFFFFFF⟩,
   ⟨0x1000000000000000, 0xFFF8000000000000⟩, ⟨0x2000000000000000, 0xFFFFFFFF00000000⟩,
   ⟨0x3000000000000000, 0xFFFFFFFFFFFFFFFF⟩, ⟨0x3000000000000001, 0xFFFFFFFFFFFFFFFF⟩,
   ⟨0x3000000000000002, 0xFFFFFFFFFFFFFFFF⟩, ⟨0x3000000000000003, 0xFFFFFFFFFFFFFFFF⟩,
   ⟨0x3000000000000004, 0xFFFFFFFFFFFFFFFF⟩, ⟨0x3000000000000005, 0xFFFFFFFFFFFFFFFF⟩,
   ⟨0x3000000000000006, 0xFFFFFFFFFFFFFFFF⟩, ⟨0x3000000000000007, 0xFFFFFFFFFFFFFFFF⟩,
   ⟨0x3000000000000000, 0xFFFFFFFFFFFF0000⟩, ⟨0x3000000000010000, 0xFFFFFFFFFFFF0000⟩,
   ⟨0x3000000000020000, 0xFFFFFFFFFFFF0000⟩, ⟨0x3000000000800000, 0xFFFFFFFFFFF00000⟩,
   ⟨0x3000000000900000, 0xFFFFFFFFFFFC0000⟩, ⟨0x3000000000940000, 0xFFFFFFFFFFFF0000⟩,
   ⟨0x3000000000000000, 0xFFFFFFFFFF000000⟩, ⟨0x4000000000000000, 0xFFFFFFFFFF00FFFF⟩,
   ⟨0x0000000000000000, 0x0000000000000000⟩]

/-- The index in the table of the first row a word matches (rule R77). -/
def firstMatchingRow (w : EventWord) : Nat := opcodeRows.findIdx (fun r => w &&& r.mask == r.bits)

/-- The index in the table of the row a constructor stands for. -/
def Instr.rowIndex : Instr → Nat
  | .nopev => 0
  | .reset => 1
  | .tick .. => 2
  | .tclk _ => 3
  | .cmdNop => 4
  | .cmdInit => 5
  | .cmdIdStart => 6
  | .cmdIdHandover => 7
  | .cmdTblLoadConst => 8
  | .cmdTblLoadId => 9
  | .cmdCtrlReset => 10
  | .cmdCtrlFault => 11
  | .cmdRsvd _ => 12
  | .wrCtrl _ => 13
  | .wrStatus _ => 14
  | .wrTbl8x .. => 15
  | .wrTbl9x .. => 16
  | .wrTbl94 _ => 17
  | .wrRo .. => 18
  | .rd _ => 19
  | .rsvd _ => 20

/-- The event word whose low `nbits` bits are those of `w`, every bit above them 0. The word is presented whole
(rule R60), so there is no order of bytes or words to lay out. -/
def eventWordOf (nbits w : Nat) : EventWord := BitVec.ofNat 64 (w % 2 ^ nbits)

/-- What the decoder reads from a word numbered as spec/opcode_table.json numbers its bits. The decoder refuses no
word: a reserved one is the operation `RSVD` (rule R65). -/
def decodeTableWord (nbits w : Nat) : Option Instr := some (decode (eventWordOf nbits w))

end Sys2Proof
end

