-- ==== Sys2Proof/Config.lean ====
section
/-! DEFINITION. The configuration `CFG` of an instance (rule R5) and the values the spec leaves open. "The
configuration is not state: no operation writes it": every operation takes it as an argument, and the machine
of `exec` and `step` runs with the one opaque constant `Config.cfg`, so that no proof can lean on a value the
spec does not give (notes/assumptions/1.md, DESIGN CHOICE). -/

namespace Sys2Proof

/-- The five parameters of one PI instance, all int16 (rule R5: `PI[i].KP` to `PI[i].OUTMAX`). -/
structure PiConfig where
  /-- `KP`, Q15. -/
  kp : Word
  /-- `KI`, Q15. -/
  ki : Word
  /-- `KC`, Q15. -/
  kc : Word
  /-- `OUTMIN`. -/
  outMin : Word
  /-- `OUTMAX`. -/
  outMax : Word
deriving DecidableEq, Repr, Inhabited

/-- The configuration record `CFG` of rule R5: one field per parameter. A field holds any value of its type;
the narrower conditions are the defects of rule R176 (`Machine.cfgCheck`). -/
structure Config where
  /-- `POLE_PAIRS`, uint16. -/
  polePairs : Word
  /-- `MIN_SPEED`, int16. -/
  minSpeed : Word
  /-- `MAX_SPEED`, int16. -/
  maxSpeed : Word
  /-- `RATED_CURRENT`, int16, Q15 of full scale. -/
  ratedCurrent : Word
  /-- `DIR_SAFE_SPEED`, int16; read by no rule (rule R144). -/
  dirSafeSpeed : Word
  /-- `PI[0]`: the speed regulator. -/
  pi0 : PiConfig
  /-- `PI[1]`: the current regulator. -/
  pi1 : PiConfig
  /-- `PI[2]`: the identifier's current limiter. -/
  pi2 : PiConfig
  /-- `ID_ILIMIT`, int16. -/
  idIlimit : Word
  /-- `ID_INTERVAL`, uint16: ticks per identification vector. -/
  idInterval : Word
  /-- `ID_ABORT_ON_FAIL`. -/
  idAbortOnFail : Bool
  /-- `MIN_DUTY`, uint16. -/
  minDuty : Word
  /-- `MAX_DUTY`, uint16. -/
  maxDuty : Word
  /-- `SPEED_MULT`, uint32. -/
  speedMult : DWord
  /-- `MA_SHIFT`; above 15 it is defect 8 of rule R176. -/
  maShift : Nat
  /-- `STOP_TIMEOUT`, uint16, in ticks. -/
  stopTimeout : Word
  /-- `OFFS_SHIFT`; above 15 it is defect 8 of rule R176. -/
  offsShift : Nat
  /-- `LPF_GAIN`, int16 Q15. -/
  lpfGain : Word
  /-- `OVR_OFF`: the word of a channel that must not drive its phase. -/
  ovrOff : Ovr
  /-- `BLDC_CONST_TABLE[s]`, s = 1..6, at index s - 1. -/
  bldcConst : SixRows
  /-- `SV_TABLE[v]`, v = 0..5. -/
  svTable : SixRows
  /-- `ID_BLDC_TABLE[v]`, v = 0..5. -/
  idBldc : SixRows
deriving DecidableEq, Repr, Inhabited

/-- The configuration of the instance. The spec gives no parameter a value (92_eei_decisions.md section 2, OPEN),
so this constant has no body: what is proved of it holds for every configuration. -/
opaque Config.cfg : Config

/-- The elements whose rule computes an integer that fits the element's type only because of what rules R5 and
R29 say of the configuration and of reachable states. -/
inductive OpenElement where
  /-- `MA_ACC`, rule R115. -/
  | maAcc
  /-- `MA_AVG`, rule R115. -/
  | maAvg
  /-- `OFFS_ACC`, rule R125. -/
  | offsAcc
  /-- `OFFS_CNT`, rule R125. -/
  | offsCnt
  /-- `TGT_SPEED`, rule R130. -/
  | tgtSpeed
  /-- `TGT_CURRENT`, rule R130. -/
  | tgtCurrent
deriving DecidableEq, Repr

/-- What element `e` of `w` bits holds after a rule wrote it an integer `v` outside its type. The spec states no
result there ("every rule is written so that it is [in range]", rule R7), so the value is free: a constant with no
body (notes/assumptions/2.md, DESIGN CHOICE). No reachable state of an instance whose shifts are within 0..15
takes it. -/
opaque Config.outOfType (e : OpenElement) (w : Nat) (v : Int) : BitVec w

end Sys2Proof
end

