-- ==== Sys2Proof/Machine/Arith.lean ====
section
/-! DEFINITION. The arithmetic primitives of rules R90 to R96, functions of their arguments alone on mathematical
integers (rule R97), and the narrowing of an integer into an element of N bits. -/

namespace Sys2Proof.Machine

/-- `sat16` (rule R90). -/
def sat16 (v : Int) : Int := if v > 32767 then 32767 else if v < -32768 then -32768 else v

/-- `sat32` (rule R91). -/
def sat32 (v : Int) : Int :=
  if v > 2147483647 then 2147483647 else if v < -2147483648 then -2147483648 else v

/-- `asr`: arithmetic shift right, `floor(v / 2^n)` for every sign (rule R92). -/
def asr (v : Int) (n : Nat) : Int := v / 2 ^ n

/-- `qmul`: the saturating Q15 multiply (rule R93). -/
def qmul (a b : Int) : Int := sat16 (asr (a * b) 15)

/-- `clamp`: the upper bound is tested first (rule R94). -/
def clamp (v lo hi : Int) : Int := if v > hi then hi else if v < lo then lo else v

/-- `udiv`: unsigned division; never applied with divisor 0 (rule R95). -/
def udiv (a b : Nat) : Nat := a / b

/-- `scale15`: the Q15 scaling of an integer, without saturation (rule R96). -/
def scale15 (a b : Int) : Int := asr (a * b) 15

/-- The write of an integer to a signed element of `w` bits; outside its type the value is free. -/
def fitSigned (e : OpenElement) (w : Nat) (v : Int) : BitVec w :=
  if -(2 ^ (w - 1)) ≤ v ∧ v < 2 ^ (w - 1) then BitVec.ofInt w v else Config.outOfType e w v

/-- The write of an integer to an unsigned element of `w` bits; outside its type the value is free. -/
def fitUnsigned (e : OpenElement) (w : Nat) (v : Int) : BitVec w :=
  if 0 ≤ v ∧ v < 2 ^ w then BitVec.ofInt w v else Config.outOfType e w v

end Sys2Proof.Machine
end

