-- ==== Sys2Proof/Machine/ConfigCheck.lean ====
section
/-! DEFINITION. What the operations compute from the configuration alone: `CFG_CHECK`, the nine defects that make a
configuration unfit to run (rule R176), and the tables that reset and the commands load. -/

namespace Sys2Proof.Machine

/-- Defect 1 for one bank: `OUTMIN > OUTMAX`. -/
def piBoundsInverted (k : PiConfig) : Bool := decide (k.outMin.toInt > k.outMax.toInt)

/-- Defect 9 is the negation of this: rows 1 to 6 of `BLDC_CONST_TABLE` pairwise different as triples of words. -/
def constRowsDistinct (c : Config) : Bool := decide (c.bldcConst.toList.Pairwise (· ≠ ·))

/-- `CFG_CHECK()`: true when the configuration has any of the nine defects of rule R176. -/
def cfgCheck (c : Config) : Bool :=
  (piBoundsInverted c.pi0 || piBoundsInverted c.pi1 || piBoundsInverted c.pi2)
  || c.polePairs == 0
  || (decide (c.minSpeed.toInt < 0) || decide (c.maxSpeed.toInt < c.minSpeed.toInt))
  || decide (c.ratedCurrent.toInt ≤ 0)
  || decide (c.minDuty.toNat > c.maxDuty.toNat)
  || c.idInterval == 0
  || c.speedMult == 0
  || (decide (c.maShift > 15) || decide (c.offsShift > 15))
  || !constRowsDistinct c

/-- Three channels at `OVR_OFF`. -/
def offRow (c : Config) : OvrRow := Vector.replicate 3 c.ovrOff

/-- Seven rows of `OVR_OFF`. -/
def offTable (c : Config) : SectorTable := Vector.replicate 7 (offRow c)

/-- The constant set as a run table: row 0 `OVR_OFF`, rows 1 to 6 `BLDC_CONST_TABLE` (rules R28 and R155). -/
def constTable (c : Config) : SectorTable :=
  #v[offRow c, c.bldcConst[0], c.bldcConst[1], c.bldcConst[2], c.bldcConst[3], c.bldcConst[4], c.bldcConst[5]]

end Sys2Proof.Machine
end

