-- ==== Sys2Proof/Machine/State.lean ====
section
/-! DEFINITION. The state of the block: the record `S` of rule R10, grouped as rules R11 to R24 group it, one field
per element, and one field of the model's own, `inbox`. After it the reset values of rule R28. -/

namespace Sys2Proof.Machine

/-- One bank of the PI register file, ten int16 registers (rule R11). -/
structure PiBank where
  /-- `KP`, offset 0. -/
  kp : Word
  /-- `KI`, offset 1. -/
  ki : Word
  /-- `KC`, offset 2. -/
  kc : Word
  /-- `OUTMIN`, offset 3. -/
  outMin : Word
  /-- `OUTMAX`, offset 4. -/
  outMax : Word
  /-- `INTEG`, offset 5. -/
  integ : Word
  /-- `REF`, offset 6. -/
  ref : Word
  /-- `MEAS`, offset 7. -/
  meas : Word
  /-- `OUT`, offset 8. -/
  out : Word
  /-- `EXC`, offset 9: `output − unclamped output` of the last update (rule R26). -/
  exc : Word
deriving DecidableEq, Repr

/-- The seven stored flags of `STATUS` (rules R15 and R72); `STOPPED` (bit 6) is not stored. -/
structure Flags where
  /-- `HALLFAIL`, bit 0. -/
  hallFail : Bool
  /-- `TMRERR`, bit 1. -/
  tmrErr : Bool
  /-- `ID_FAIL`, bit 2. -/
  idFail : Bool
  /-- `ID_DONE`, bit 3. -/
  idDone : Bool
  /-- `OFFS_DONE`, bit 4. -/
  offsDone : Bool
  /-- `CFGERR`, bit 5. -/
  cfgErr : Bool
  /-- `BADEV`, bit 7. -/
  badEv : Bool
deriving DecidableEq, Repr

/-- The input latches a `TICK` writes first (rule R17). -/
structure InputLatch where
  /-- `IBUS_RAW`, int16. -/
  ibusRaw : Word
  /-- `CTRL_IN`, int16, 0..32767. -/
  ctrlIn : Word
  /-- `PWM_PERIOD`, uint16. -/
  pwmPeriod : Word
deriving DecidableEq, Repr

/-- The control context (rule R18). -/
structure ControlContext where
  /-- `IN_SECTOR`. -/
  inSector : BitVec 3
  /-- `IN_SPEED`, int16. -/
  inSpeed : Word
  /-- `IN_DIR`. -/
  inDir : Bool
  /-- `IN_IBUS`, int16. -/
  inIbus : Word
  /-- `COMM_SECTOR`. -/
  commSector : BitVec 3
  /-- `TGT_SPEED`, int16. -/
  tgtSpeed : Word
  /-- `TGT_CURRENT`, int16. -/
  tgtCurrent : Word
  /-- `TGT_DUTY`, int32. -/
  tgtDuty : DWord
deriving DecidableEq, Repr

/-- The output registers, the block's output ports at all times (rule R19). -/
structure Outputs where
  /-- `PWM_OVR[0..2]`. -/
  pwmOvr : OvrRow
  /-- `PWM_DUTY`, uint16. -/
  pwmDuty : Word
  /-- `PWM_EN`. -/
  pwmEn : Bool
  /-- `RD_DATA`. -/
  rdData : Word
deriving DecidableEq, Repr

/-- The hall estimator and the inter-edge timer (rule R20). -/
structure HallState where
  /-- `HALL_CUR`. -/
  cur : BitVec 3
  /-- `HALL_PREV`. -/
  prev : BitVec 3
  /-- `SECTOR`. -/
  sector : BitVec 3
  /-- `CHG`. -/
  chg : Bool
  /-- `HSEED`. -/
  hseed : Bool
  /-- `TMR`, uint32. -/
  tmr : DWord
  /-- `TMR_RUN`. -/
  tmrRun : Bool
  /-- `PERIOD`, uint32. -/
  period : DWord
  /-- `STOPCNT`, uint16. -/
  stopCnt : Word
deriving DecidableEq, Repr

/-- The speed filter (rule R21). -/
structure SpeedState where
  /-- `MA_ACC`, unsigned 48 bits. -/
  maAcc : Acc48
  /-- `MA_AVG`, uint32. -/
  maAvg : DWord
  /-- `SPEED`, int16, 0..32767. -/
  speed : Word
deriving DecidableEq, Repr

/-- The bus-current offset calibration and low-pass filter (rule R22). -/
structure CurrentState where
  /-- `OFFS_ACC`, int32. -/
  offsAcc : DWord
  /-- `OFFS_CNT`, uint16. -/
  offsCnt : Word
  /-- `OFFSET`, int16. -/
  offset : Word
  /-- `IBUS_CAL`, int16. -/
  ibusCal : Word
  /-- `LPF_ACC`, int32. -/
  lpfAcc : DWord
  /-- `IBUS_FILT`, int16. -/
  ibusFilt : Word
deriving DecidableEq, Repr

/-- The hall-sequence identifier (rules R14 and R23). -/
structure IdentState where
  /-- `ID_ACTIVE`. -/
  active : Bool
  /-- `ID_VEC`, 0..6; 6 means finished. -/
  vec : BitVec 3
  /-- `ID_ICNT`, uint16. -/
  icnt : Word
  /-- `ID_DUTY`, int32. -/
  duty : DWord
  /-- `ID_HALL_NOW`. -/
  hallNow : BitVec 3
  /-- `ID_HALL_LAST`. -/
  hallLast : BitVec 3
  /-- `ID_FAILCNT`, saturates at 7. -/
  failCnt : BitVec 3
  /-- `ID_MAP[0..6][0..2]`. -/
  map : SectorTable
deriving DecidableEq, Repr

/-- The whole state. -/
structure State where
  /-- `CTRL`, 4 bits: `RUN`, `DIR`, `MODE` (rules R16 and R73). -/
  ctrl : BitVec 4
  /-- `CTRL_STATE`, 3 bits; all eight patterns can be held (rules R13 and R70). -/
  ctrlState : BitVec 3
  /-- The stored flags of `STATUS` (rule R15). -/
  flags : Flags
  /-- The input latches (rule R17). -/
  latch : InputLatch
  /-- The control context (rule R18). -/
  ctx : ControlContext
  /-- The outputs (rule R19). -/
  out : Outputs
  /-- The hall estimator (rule R20). -/
  hall : HallState
  /-- The speed filter (rule R21). -/
  spd : SpeedState
  /-- The bus-current unit (rule R22). -/
  cur : CurrentState
  /-- The identifier (rules R14 and R23). -/
  ident : IdentState
  /-- `PI[0]`, the speed regulator (rule R11). -/
  pi0 : PiBank
  /-- `PI[1]`, the current regulator. -/
  pi1 : PiBank
  /-- `PI[2]`, the identifier's current limiter. -/
  pi2 : PiBank
  /-- `RUN_TABLE[0..6][0..2]` (rule R24). -/
  runTable : SectorTable
  /-- The MODEL's own field, no element of the block: the event words the agents have still to present, the next
  one first. The order is the environment's (rules R9 and R48); no operation reads or writes it
  (notes/assumptions/3.md, DESIGN CHOICE). -/
  inbox : List EventWord
deriving DecidableEq, Repr

/-- The faults of the machine: NONE. "The block has no trap: no operation ever abandons its work" (rule R185), every
operation is total (rule R7) and the block never halts (rule R182), so the type has no constructor. Safe: nothing
can stop. -/
inductive Fault where
deriving DecidableEq, Repr

/-- The refusals. -/
inductive Refusal where
  /-- An arm of `exec` whose instruction has no meaning yet; raised by `exec` alone. Safe: the machine stops where
  the hardware goes on. No arm of this model uses it. -/
  | notModelled (mnemonic : String)
deriving DecidableEq, Repr

/-- The answer of a meaning. -/
abbrev Result := Host.Outcome State Fault Refusal

/-! Names for the encodings of `CTRL_STATE` (rule R70). -/

/-- INIT. -/
abbrev stInit : BitVec 3 := 0
/-- LOOP. -/
abbrev stLoop : BitVec 3 := 1
/-- OPEN_LOOP. -/
abbrev stOpenLoop : BitVec 3 := 2
/-- SPEED_LOOP. -/
abbrev stSpeedLoop : BitVec 3 := 3
/-- CURRENT_LOOP. -/
abbrev stCurrentLoop : BitVec 3 := 4
/-- FAULT; 6 and 7 are the unknown states. -/
abbrev stFault : BitVec 3 := 5

/-- A bank after reset: the five values of `CFG.PI[i]`, the rest 0 (rule R28). -/
def PiBank.ofConfig (k : PiConfig) : PiBank :=
  { kp := k.kp, ki := k.ki, kc := k.kc, outMin := k.outMin, outMax := k.outMax,
    integ := 0, ref := 0, meas := 0, out := 0, exc := 0 }

/-- The state after `RESET` of an instance with configuration `c`, element by element as the table of rule R28. -/
def State.resetWith (c : Config) : State :=
  { ctrl := 0
    ctrlState := if cfgCheck c then stFault else stInit
    flags := { hallFail := false, tmrErr := false, idFail := false, idDone := false, offsDone := false,
               cfgErr := cfgCheck c, badEv := false }
    latch := { ibusRaw := 0, ctrlIn := 0, pwmPeriod := 0 }
    ctx := { inSector := 0, inSpeed := 0, inDir := false, inIbus := 0, commSector := 0, tgtSpeed := 0,
             tgtCurrent := 0, tgtDuty := 0 }
    out := { pwmOvr := offRow c, pwmDuty := c.minDuty, pwmEn := false, rdData := 0 }
    hall := { cur := 0, prev := 0, sector := 0, chg := false, hseed := false, tmr := 0, tmrRun := false,
              period := 0, stopCnt := 0 }
    spd := { maAcc := 0, maAvg := 0, speed := 0 }
    cur := { offsAcc := 0, offsCnt := 0, offset := 0, ibusCal := 0, lpfAcc := 0, ibusFilt := 0 }
    ident := { active := false, vec := 0, icnt := 0, duty := 0, hallNow := 0, hallLast := 0, failCnt := 0,
               map := offTable c }
    pi0 := PiBank.ofConfig c.pi0
    pi1 := PiBank.ofConfig c.pi1
    pi2 := PiBank.ofConfig c.pi2
    runTable := constTable c
    inbox := [] }

/-- The machine right after reset (rule R28), with no event presented yet. -/
def State.reset : State := State.resetWith Config.cfg

end Sys2Proof.Machine
end

