-- ==== Sys2Proof/Machine/Flags.lean ====
section
/-! DEFINITION. The status flags: `raise`, the clearing writes, and `STATUS` as it is read (rules R15, R45, R72 and
R192). -/

namespace Sys2Proof.Machine

/-- The stored flags by name. -/
inductive Flag where
  /-- `HALLFAIL`. -/
  | hallFail
  /-- `TMRERR`. -/
  | tmrErr
  /-- `ID_FAIL`. -/
  | idFail
  /-- `ID_DONE`. -/
  | idDone
  /-- `OFFS_DONE`. -/
  | offsDone
  /-- `CFGERR`. -/
  | cfgErr
  /-- `BADEV`. -/
  | badEv
deriving DecidableEq, Repr

/-- Flag `f` of the record. -/
def flagOf (fl : Flags) : Flag → Bool
  | .hallFail => fl.hallFail
  | .tmrErr => fl.tmrErr
  | .idFail => fl.idFail
  | .idDone => fl.idDone
  | .offsDone => fl.offsDone
  | .cfgErr => fl.cfgErr
  | .badEv => fl.badEv

/-- The record with flag `f` set to 1. -/
def setFlag (fl : Flags) : Flag → Flags
  | .hallFail => { fl with hallFail := true }
  | .tmrErr => { fl with tmrErr := true }
  | .idFail => { fl with idFail := true }
  | .idDone => { fl with idDone := true }
  | .offsDone => { fl with offsDone := true }
  | .cfgErr => { fl with cfgErr := true }
  | .badEv => { fl with badEv := true }

/-- `raise F` (rule R7): set the flag and go on at the next line; no control is transferred. -/
def raise (f : Flag) (s : State) : State := { s with flags := setFlag s.flags f }

/-- `STOPPED`: not stored, 1 exactly when `STOPCNT` = 0 (rule R15). -/
def stopped (s : State) : Bool := s.hall.stopCnt == 0

/-- The eight flags as the `status` port shows them (rules R72 and R180). -/
def statusByte (s : State) : BitVec 8 :=
  BitVec.ofBool s.flags.badEv ++ BitVec.ofBool (stopped s) ++ BitVec.ofBool s.flags.cfgErr
    ++ BitVec.ofBool s.flags.offsDone ++ BitVec.ofBool s.flags.idDone ++ BitVec.ofBool s.flags.idFail
    ++ BitVec.ofBool s.flags.tmrErr ++ BitVec.ofBool s.flags.hallFail

/-- `STATUS` as a word: bits 15:8 read 0 (rule R72). -/
def statusWord (s : State) : Word := 0#8 ++ statusByte s

/-- The write-one-to-clear effect of `WR STATUS` (rule R45): bits 0, 1 and 7 of the data clear `HALLFAIL`, `TMRERR`
and `BADEV`; the other bits are ignored. -/
def clearFlags (v : Word) (fl : Flags) : Flags :=
  { fl with
    hallFail := if v.getLsbD 0 then false else fl.hallFail
    tmrErr := if v.getLsbD 1 then false else fl.tmrErr
    badEv := if v.getLsbD 7 then false else fl.badEv }

end Sys2Proof.Machine
end

