-- ==== Sys2Proof/Machine/Operands.lean ====
section
/-! DEFINITION. Operand assembly: the signed fields of a `TICK`, the fields of `CTRL`, the validity of a hall code,
the address decode of tables and PI banks, and the layout of an override word (rules R66 to R68, R71, R73, R74 and
R76). -/

namespace Sys2Proof.Machine

/-- `max(pot, 0)` of the sign-extended field, as the int16 latched in `CTRL_IN` (rules R67 and R167). -/
def ctrlInOf (pot : Word) : Word := if pot.toInt < 0 then 0 else pot

/-- A valid hall code or commutation sector: 1 to 6; 0 and 7 are illegal (rules R66 and R76). -/
abbrev ValidCode (code : BitVec 3) : Prop := 1 ≤ code.toNat ∧ code.toNat ≤ 6

/-- `CTRL.RUN` (rule R73). -/
def runBit (s : State) : Bool := s.ctrl.getLsbD 0

/-- `CTRL.DIR`. -/
def dirBit (s : State) : Bool := s.ctrl.getLsbD 1

/-- `CTRL.MODE` (rule R71). -/
def modeField (s : State) : BitVec 2 := s.ctrl.extractLsb' 2 2

/-- The loop of a control arm, the operand of `GET_INPUTS` (rule R130). -/
inductive Loop where
  /-- OPEN_LOOP. -/
  | openLoop
  /-- SPEED_LOOP. -/
  | speedLoop
  /-- CURRENT_LOOP. -/
  | currentLoop
deriving DecidableEq, Repr

/-- Row and channel of a table word: `s = (addr − base) udiv 3`, `ch = (addr − base) − 3·s`, for `addr − base` in
0..20 (rule R68). -/
def tableIndex (base : Nat) (addr : BitVec 8) : Option (Fin 7 × Fin 3) :=
  if h : base ≤ addr.toNat ∧ addr.toNat - base < 21 then
    some (⟨(addr.toNat - base) / 3, by omega⟩,
      ⟨(addr.toNat - base) - 3 * ((addr.toNat - base) / 3), by omega⟩)
  else none

/-- The word `T[s][ch]`. -/
def tableWord (t : SectorTable) (i : Fin 7 × Fin 3) : Ovr := t[i.1][i.2]

/-- The table with `T[s][ch] <- v`. -/
def setTableWord (t : SectorTable) (i : Fin 7 × Fin 3) (v : Ovr) : SectorTable :=
  t.set i.1 (t[i.1].set i.2 v)

/-- The field of a PI bank at offset 0 to 9 (rules R11 and R68); the other offsets hold none. -/
def bankWord (b : PiBank) (offset : Nat) : Option Word :=
  match offset with
  | 0 => some b.kp
  | 1 => some b.ki
  | 2 => some b.kc
  | 3 => some b.outMin
  | 4 => some b.outMax
  | 5 => some b.integ
  | 6 => some b.ref
  | 7 => some b.meas
  | 8 => some b.out
  | 9 => some b.exc
  | _ => none

/-! The layout of an override word (rule R74). The block carries all 16 bits unchanged and interprets none; what the
fields mean to the excluded PWM stage is part of the output's description only. -/

/-- `ENH`: the high-side output is overridden. -/
def ovrEnh (w : Ovr) : Bool := w.getLsbD 3

/-- `ENL`: the low-side output is overridden. -/
def ovrEnl (w : Ovr) : Bool := w.getLsbD 2

/-- `DATH`: the level of an overridden high-side output. -/
def ovrDath (w : Ovr) : Bool := w.getLsbD 1

/-- `DATL`: the level of an overridden low-side output. -/
def ovrDatl (w : Ovr) : Bool := w.getLsbD 0

/-- `OVR_PWM`: the half-bridge follows the duty. -/
def ovrPwm : Ovr := 0x0000

/-- `OVR_LOW`: the phase is tied low. -/
def ovrLow : Ovr := 0x000D

/-- The default of the parameter `OVR_OFF`: the phase floats. -/
def ovrOffDefault : Ovr := 0x000C

end Sys2Proof.Machine
end

