-- ==== Sys2Proof/Machine/Ops.lean ====
section
/-! DEFINITION. The named operations on the state: the register space as it is read (rules R41, R44 and R47), the
entry to FAULT and the return from it (rules R190 and R191; the block has no trap, so this is what takes the place
of taking an exception and returning from one), the event input (rules R9 and R60), and the output ports
(rule R180). -/

namespace Sys2Proof.Machine

/-! ## The register space -/

/-- Bits 15:0 of a 32-bit element, at its lower address (rule R41). -/
def lowWord (x : DWord) : Word := x.extractLsb' 0 16

/-- Bits 31:16, at the next address. -/
def highWord (x : DWord) : Word := x.extractLsb' 16 16

/-- The packed word `SECT` (rule R75). -/
def sectWord (s : State) : Word :=
  0#7 ++ BitVec.ofBool s.ctx.inDir ++ 0#1 ++ s.ctx.inSector ++ 0#1 ++ s.ctx.commSector

/-- The packed word `HALL` (rule R75). -/
def hallPacked (s : State) : Word :=
  0#1 ++ BitVec.ofBool s.hall.hseed ++ BitVec.ofBool s.hall.tmrRun ++ BitVec.ofBool s.hall.chg
    ++ 0#1 ++ s.hall.sector ++ 0#1 ++ s.hall.prev ++ 0#1 ++ s.hall.cur

/-- The packed word `ID_CTL` (rule R75). -/
def idCtlWord (s : State) : Word :=
  0#1 ++ s.ident.failCnt ++ 0#1 ++ s.ident.hallLast ++ 0#1 ++ s.ident.hallNow
    ++ BitVec.ofBool s.ident.active ++ s.ident.vec

/-- Addresses 0x00 to 0x0F. -/
def controlWord (s : State) (offset : Nat) : Option Word :=
  match offset with
  | 0x0 => some 0
  | 0x1 => some (s.ctrl.setWidth 16)
  | 0x2 => some (statusWord s)
  | 0x3 => some (s.ctrlState.setWidth 16)
  | 0x4 => some ((BitVec.ofBool s.out.pwmEn).setWidth 16)
  | 0x5 => some s.out.pwmDuty
  | 0x6 => some s.out.pwmOvr[0]
  | 0x7 => some s.out.pwmOvr[1]
  | 0x8 => some s.out.pwmOvr[2]
  | 0x9 => some s.latch.ctrlIn
  | 0xA => some s.latch.pwmPeriod
  | 0xB => some (sectWord s)
  | 0xC => some s.ctx.tgtSpeed
  | 0xD => some s.ctx.tgtCurrent
  | 0xE => some (lowWord s.ctx.tgtDuty)
  | 0xF => some (highWord s.ctx.tgtDuty)
  | _ => none

/-- Addresses 0x10 to 0x1F: bank 0, then `IN_SPEED` and `IN_IBUS`. -/
def speedBankWord (s : State) (offset : Nat) : Option Word :=
  match offset with
  | 0xA => some s.ctx.inSpeed
  | 0xB => some s.ctx.inIbus
  | k => bankWord s.pi0 k

/-- Addresses 0x40 to 0x4F. -/
def hallWord (s : State) (offset : Nat) : Option Word :=
  match offset with
  | 0x0 => some (hallPacked s)
  | 0x1 => some s.hall.stopCnt
  | 0x2 => some (lowWord s.hall.tmr)
  | 0x3 => some (highWord s.hall.tmr)
  | 0x4 => some (lowWord s.hall.period)
  | 0x5 => some (highWord s.hall.period)
  | 0x6 => some (lowWord s.spd.maAvg)
  | 0x7 => some (highWord s.spd.maAvg)
  | 0x8 => some (s.spd.maAcc.extractLsb' 0 16)
  | 0x9 => some (s.spd.maAcc.extractLsb' 16 16)
  | 0xA => some (s.spd.maAcc.extractLsb' 32 16)
  | 0xB => some s.spd.speed
  | _ => none

/-- Addresses 0x50 to 0x5F. -/
def currentWord (s : State) (offset : Nat) : Option Word :=
  match offset with
  | 0x0 => some s.cur.offset
  | 0x1 => some s.cur.offsCnt
  | 0x2 => some (lowWord s.cur.offsAcc)
  | 0x3 => some (highWord s.cur.offsAcc)
  | 0x4 => some s.latch.ibusRaw
  | 0x5 => some s.cur.ibusCal
  | 0x6 => some s.cur.ibusFilt
  | 0x7 => some (lowWord s.cur.lpfAcc)
  | 0x8 => some (highWord s.cur.lpfAcc)
  | _ => none

/-- Addresses 0x60 to 0x6F. -/
def identWord (s : State) (offset : Nat) : Option Word :=
  match offset with
  | 0x0 => some (idCtlWord s)
  | 0x1 => some s.ident.icnt
  | 0x2 => some (lowWord s.ident.duty)
  | 0x3 => some (highWord s.ident.duty)
  | _ => none

/-- The content of a mapped address; `none` for an unmapped one (rule R44). -/
def mappedWord (s : State) (addr : BitVec 8) : Option Word :=
  match addr.toNat / 16 with
  | 0x0 => controlWord s (addr.toNat % 16)
  | 0x1 => speedBankWord s (addr.toNat % 16)
  | 0x2 => bankWord s.pi1 (addr.toNat % 16)
  | 0x3 => bankWord s.pi2 (addr.toNat % 16)
  | 0x4 => hallWord s (addr.toNat % 16)
  | 0x5 => currentWord s (addr.toNat % 16)
  | 0x6 => identWord s (addr.toNat % 16)
  | 0x8 => (tableIndex 0x80 addr).map (tableWord s.runTable)
  | 0x9 => (tableIndex 0x80 addr).map (tableWord s.runTable)
  | 0xA => (tableIndex 0xA0 addr).map (tableWord s.ident.map)
  | 0xB => (tableIndex 0xA0 addr).map (tableWord s.ident.map)
  | _ => none

/-- `MemRead(addr, 1)` (rule R47): an unmapped address reads 0x0000 and is no error. -/
def memRead (s : State) (addr : BitVec 8) : Word := (mappedWord s addr).getD 0

/-- `RUN_TABLE[s][ch] <- v` at an address of the run table (rule R45); any other address is not writable and raises
`BADEV` (rule R46). -/
def writeRunTable (addr : BitVec 8) (v : Word) (s : State) : State :=
  match tableIndex 0x80 addr with
  | some i => { s with runTable := setTableWord s.runTable i v }
  | none => raise .badEv s

/-! ## Entering FAULT and leaving it -/

/-- Entry to FAULT (rule R190): `CTRL_STATE` becomes FAULT and `PWM_EN` is cleared; nothing is saved, there is no
cause register and no vector, and the other outputs keep their values. -/
def enterFault (s : State) : State := { s with ctrlState := stFault, out.pwmEn := false }

/-- The control machine parked in INIT with the PWM disabled: the return from FAULT (`CTRL_RESET`, rules R177 and
R191), the stop of rule R133 and the parking of rule R150. Nothing of the state before is restored. -/
def parkInInit (s : State) : State := { s with ctrlState := stInit, out.pwmEn := false }

/-! ## The event input -/

/-- Take the next event word, if one is presented. -/
def takeEvent (s : State) : Option (EventWord × State) :=
  match s.inbox with
  | [] => none
  | w :: rest => some (w, { s with inbox := rest })

/-- Present `w` as the next event. -/
def presentEvent (w : EventWord) (s : State) : State := { s with inbox := w :: s.inbox }

/-! ## The output ports -/

/-- The output ports of rule R180, by the spec's names. -/
structure Ports where
  /-- `pwm_en`. -/
  pwmEn : Bool
  /-- `pwm_duty`. -/
  pwmDuty : Word
  /-- `pwm_ovr0`, `pwm_ovr1`, `pwm_ovr2`. -/
  pwmOvr : OvrRow
  /-- `rd_data`. -/
  rdData : Word
  /-- `status`, the same value `RD STATUS` returns. -/
  status : BitVec 8
deriving DecidableEq, Repr

/-- The ports at all times: levels, the output registers themselves (rules R19, R180 and R181). -/
def ports (s : State) : Ports :=
  { pwmEn := s.out.pwmEn, pwmDuty := s.out.pwmDuty, pwmOvr := s.out.pwmOvr, rdData := s.out.rdData
    status := statusByte s }

end Sys2Proof.Machine
end

