-- ==== Sys2Proof/Machine/BusCurrent.lean ====
section
/-! DEFINITION. The bus-current offset calibration and low-pass filter (43_bus_current.md). -/

namespace Sys2Proof.Machine

/-- The number of offset samples, `2^OFFS_SHIFT` (rule R125). -/
def offsSamples (c : Config) : Nat := 2 ^ c.offsShift

/-- `CUR_OFFS` (rule R125): one sample of the offset calibration; the last one stores the average. -/
def curOffs (c : Config) (s : State) : State :=
  let s := { s with
    cur.offsAcc := fitSigned .offsAcc 32 (s.cur.offsAcc.toInt + s.latch.ibusRaw.toInt)
    cur.offsCnt := fitUnsigned .offsCnt 16 (s.cur.offsCnt.toNat + 1) }
  if s.cur.offsCnt.toNat = offsSamples c then
    raise .offsDone
      { s with cur.offset := BitVec.ofInt 16 (sat16 (asr s.cur.offsAcc.toInt c.offsShift)) }
  else s

/-- `CUR_SAMPLE` (rule R126): subtract the offset, then the single-pole filter. `IBUS_CAL` is the value just
written and `IBUS_FILT` the previous output. -/
def curSample (c : Config) (s : State) : State :=
  let cal : Word := BitVec.ofInt 16 (sat16 (s.latch.ibusRaw.toInt - s.cur.offset.toInt))
  let acc : DWord := BitVec.ofInt 32
    (sat32 (s.cur.lpfAcc.toInt + (cal.toInt - s.cur.ibusFilt.toInt) * c.lpfGain.toInt))
  { s with
    cur.ibusCal := cal
    cur.lpfAcc := acc
    cur.ibusFilt := BitVec.ofInt 16 (sat16 (asr acc.toInt 15)) }

/-- `CUR_STEP` (rule R127): calibrate until `OFFS_DONE`, then filter. -/
def curStep (c : Config) (s : State) : State :=
  if s.flags.offsDone = false then curOffs c s else curSample c s

end Sys2Proof.Machine
end

