-- ==== Sys2Proof/Machine/HallSpeed.lean ====
section
/-! DEFINITION. The hall-sector decoder, the edge detector, the inter-edge timer and the speed estimator
(42_hall_speed.md). -/

namespace Sys2Proof.Machine

/-- `HALL_READ` (rule R110): a code of 0 or 7 raises `HALLFAIL`. The code itself is returned as it is, so the
callers use their own operand. -/
def hallRead (code : BitVec 3) (s : State) : State :=
  if code = 0 ∨ code = 7 then raise .hallFail s else s

/-- `HALL_UPD` (rule R111): the edge detector on raw codes; a change toggles `CHG`. -/
def hallUpd (code : BitVec 3) (s : State) : State :=
  let s := hallRead code s
  if code ≠ s.hall.cur then
    { s with hall.prev := s.hall.cur, hall.cur := code, hall.chg := !s.hall.chg }
  else s

/-- `HALL_SEED` (rule R113): the first tick after `RESET` or `INIT` adopts the pins without an edge. -/
def hallSeed (code : BitVec 3) (s : State) : State :=
  let s := hallRead code s
  { s with
    hall := { s.hall with
      cur := code, prev := code
      sector := if ValidCode code then code else s.hall.sector
      tmr := 0, tmrRun := true, stopCnt := 0, chg := false, hseed := true } }

/-- Step (c) of rule R112: the snapshot, the timer zeroed, the flags, the sector and the countdown. -/
def hallEdge (c : Config) (s : State) : State :=
  let period := s.hall.tmr
  let s := { s with hall.period := period, hall.tmr := 0 }
  let s := if period = 0 then raise .tmrErr s else s
  let s :=
    if ValidCode s.hall.cur then { s with hall.sector := s.hall.cur } else raise .hallFail s
  { s with hall.stopCnt := c.stopTimeout, hall.chg := false }

/-- Step (d) of rule R112: the countdown, which stops at 0. -/
def hallNoEdge (s : State) : State :=
  if s.hall.stopCnt.toNat > 0 then { s with hall.stopCnt := s.hall.stopCnt - 1 } else s

/-- `HALL_HANDLER` (rule R112, with the seed arm of rule R113). Step (a) starts the timer and does not zero it
(90_conflicts.md C4). -/
def hallHandler (c : Config) (code : BitVec 3) (s : State) : State :=
  if s.hall.hseed = false then hallSeed code s
  else
    let s := { s with hall.tmrRun := true }
    let s := hallUpd code s
    if s.hall.chg = true then hallEdge c s else hallNoEdge s

/-- `TCLK n` (rule R114): the timer advances modulo 2^32 while it runs. -/
def tclk (n : DWord) (s : State) : State :=
  if s.hall.tmrRun = true then { s with hall.tmr := s.hall.tmr + n } else s

/-- The speed filter's two writes (rule R115): `MA_ACC`, then `MA_AVG` from the accumulator just written. -/
def maStep (c : Config) (s : State) : State :=
  let acc := fitUnsigned .maAcc 48 ((s.spd.maAcc.toNat : Int) - s.spd.maAvg.toNat + s.hall.period.toNat)
  { s with spd.maAcc := acc, spd.maAvg := fitUnsigned .maAvg 32 (asr acc.toNat c.maShift) }

/-- The speed from the average (rule R115): the divide is skipped at average 0 and the speed saturates at 32767; a
stopped motor has speed 0. -/
def speedOf (c : Config) (s : State) : Word :=
  if s.hall.stopCnt = 0 then 0
  else if s.spd.maAvg ≠ 0 then
    BitVec.ofNat 16 (min (udiv c.speedMult.toNat s.spd.maAvg.toNat) 32767)
  else s.spd.speed

/-- `SPEED_CALC` (rule R115), once per tick after the handler. -/
def speedCalc (c : Config) (s : State) : State :=
  let s := maStep c s
  { s with spd.speed := speedOf c s }

end Sys2Proof.Machine
end

