-- ==== Sys2Proof/Machine/PiController.lean ====
section
/-! DEFINITION. The PI controller (41_pi_controller.md): its three operations, each on one bank. The banks share nothing
(rule R104). -/

namespace Sys2Proof.Machine

/-- `PI_CLEAR` (rule R101): zero the dynamic registers; the gains and bounds are not touched. -/
def piClear (b : PiBank) : PiBank := { b with integ := 0, ref := 0, meas := 0, out := 0, exc := 0 }

/-- `PI_INIT` (rule R100): load the gains and bounds from the configuration and clear the bank. -/
def piInit (k : PiConfig) (b : PiBank) : PiBank :=
  piClear { b with kp := k.kp, ki := k.ki, kc := k.kc, outMin := k.outMin, outMax := k.outMax }

/-- Step 1 of rule R102: the error, saturated to int16. -/
def piError (b : PiBank) : Int := sat16 (b.ref.toInt - b.meas.toInt)

/-- Step 3 of rule R102: the new integrator, with the excess of the previous update fed back, clamped to the bounds
(90_conflicts.md C1 and C2). -/
def piIntegral (b : PiBank) : Int :=
  clamp (b.integ.toInt + qmul (piError b) b.ki.toInt + qmul b.exc.toInt b.kc.toInt) b.outMin.toInt b.outMax.toInt

/-- Step 4 of rule R102: the unclamped output `u`, an integer of up to 17 bits, not saturated. -/
def piUnclamped (b : PiBank) : Int := qmul (piError b) b.kp.toInt + piIntegral b

/-- Step 5 of rule R102: the output. -/
def piOutput (b : PiBank) : Int := clamp (piUnclamped b) b.outMin.toInt b.outMax.toInt

/-- `PI_UPDATE` (rule R102): all reads are of the values before the update; the three writes come last. -/
def piUpdate (b : PiBank) : PiBank :=
  { b with
    integ := BitVec.ofInt 16 (piIntegral b)
    out := BitVec.ofInt 16 (piOutput b)
    exc := BitVec.ofInt 16 (sat16 (piOutput b - piUnclamped b)) }

/-- `REF` and `MEAS` written by the caller, then `PI_UPDATE` (rule R104: `update(reference, measurement, state)`). -/
def piRun (ref meas : Word) (b : PiBank) : PiBank := piUpdate { b with ref := ref, meas := meas }

end Sys2Proof.Machine
end

