-- ==== Sys2Proof/Machine/SixStep.lean ====
section
/-! DEFINITION. The six-step commutation state machine (44_sixstep_control.md): the three shared micro-operations, the
arms, and the step. -/

namespace Sys2Proof.Machine

/-- `COMM_SECTOR` from the sector and the direction: `7 − sector` when reversed (rule R130). -/
def commSectorOf (dir : Bool) (sector : BitVec 3) : BitVec 3 := if dir then 7 - sector else sector

/-- The target speed of rule R130: `MIN_SPEED + scale15(MAX_SPEED − MIN_SPEED, CTRL_IN)`. -/
def targetSpeed (c : Config) (ctrlIn : Word) : Int :=
  c.minSpeed.toInt + scale15 (c.maxSpeed.toInt - c.minSpeed.toInt) ctrlIn.toInt

/-- The target current of rule R130: `scale15(RATED_CURRENT, CTRL_IN)`. -/
def targetCurrent (c : Config) (ctrlIn : Word) : Int := scale15 c.ratedCurrent.toInt ctrlIn.toInt

/-- `GET_INPUTS(loop)` (rule R130): only the target of the active loop is computed (90_conflicts.md C6). -/
def getInputs (c : Config) (loop : Loop) (s : State) : State :=
  let s := { s with
    ctx.inSector := s.hall.sector
    ctx.inSpeed := s.spd.speed
    ctx.inDir := dirBit s
    ctx.commSector := commSectorOf (dirBit s) s.hall.sector }
  match loop with
  | .openLoop => s
  | .speedLoop => { s with ctx.tgtSpeed := fitSigned .tgtSpeed 16 (targetSpeed c s.latch.ctrlIn) }
  | .currentLoop =>
    { s with
      ctx.tgtCurrent := fitSigned .tgtCurrent 16 (targetCurrent c s.latch.ctrlIn)
      ctx.inIbus := s.cur.ibusFilt }

/-- The row `OVR_DISPATCH` drives for commutation sector `cs` (rule R131). -/
def overrideRow (c : Config) (t : SectorTable) (cs : BitVec 3) : OvrRow :=
  if h : ValidCode cs then t[cs.toNat]'(by have := h.2; omega) else offRow c

/-- `OVR_DISPATCH(cs)` (rule R131). -/
def ovrDispatch (c : Config) (cs : BitVec 3) (s : State) : State :=
  { s with out.pwmOvr := overrideRow c s.runTable cs }

/-- `DUTY_SET(v)` (rule R132). -/
def dutySet (c : Config) (v : Int) (s : State) : State :=
  { s with out.pwmDuty := BitVec.ofInt 16 (clamp v c.minDuty.toNat c.maxDuty.toNat) }

/-- `TGT_DUTY <- scale15(x, PWM_PERIOD)` and `DUTY_SET(TGT_DUTY)`, the lines the three loop arms share. -/
def driveDuty (c : Config) (x : Word) (s : State) : State :=
  let s := { s with ctx.tgtDuty := BitVec.ofInt 32 (scale15 x.toInt s.latch.pwmPeriod.toNat) }
  dutySet c s.ctx.tgtDuty.toInt s

/-- `PWM_EN <- 1`. -/
def enablePwm (s : State) : State := { s with out.pwmEn := true }

/-- Arm INIT (rule R134): zero all control and reference fields, go to LOOP. -/
def armInit (s : State) : State :=
  { s with
    pi0 := piClear s.pi0
    pi1 := piClear s.pi1
    ctx := { inSector := 0, inSpeed := 0, inDir := false, inIbus := 0, commSector := 0, tgtSpeed := 0,
             tgtCurrent := 0, tgtDuty := 0 }
    ctrlState := stLoop }

/-- Arm LOOP (rule R135): the mode names the loop; the reserved mode 3 goes to FAULT. -/
def armLoop (s : State) : State :=
  if modeField s = 0 then { s with ctrlState := stOpenLoop }
  else if modeField s = 1 then { s with ctrlState := stSpeedLoop }
  else if modeField s = 2 then { s with ctrlState := stCurrentLoop }
  else enterFault s

/-- Arm OPEN_LOOP (rule R136). -/
def armOpenLoop (c : Config) (s : State) : State :=
  let s := getInputs c .openLoop s
  let s := ovrDispatch c s.ctx.commSector s
  let s := driveDuty c s.latch.ctrlIn s
  enablePwm s

/-- Arm SPEED_LOOP (rule R137). -/
def armSpeedLoop (c : Config) (s : State) : State :=
  let s := getInputs c .speedLoop s
  let s := { s with pi0 := piRun s.ctx.tgtSpeed s.ctx.inSpeed s.pi0 }
  let s := driveDuty c s.pi0.out s
  let s := ovrDispatch c s.ctx.commSector s
  enablePwm s

/-- Arm CURRENT_LOOP (rule R138). -/
def armCurrentLoop (c : Config) (s : State) : State :=
  let s := getInputs c .currentLoop s
  let s := { s with pi1 := piRun s.ctx.tgtCurrent s.ctx.inIbus s.pi1 }
  let s := driveDuty c s.pi1.out s
  let s := ovrDispatch c s.ctx.commSector s
  enablePwm s

/-- Arm FAULT (rule R139): only `PWM_EN <- 0`. -/
def armFault (s : State) : State := { s with out.pwmEn := false }

/-- Arm UNKNOWN (rule R140): force to FAULT. -/
def armUnknown (s : State) : State := enterFault s

/-- `CTRL_STEP` (rule R133): exactly one arm runs, chosen by `CTRL_STATE` at entry; `RUN` = 0 stops the machine from
any state but FAULT and the unknown ones. -/
def ctrlStep (c : Config) (s : State) : State :=
  if s.ctrlState.toNat > 5 then armUnknown s
  else if s.ctrlState = stFault then armFault s
  else if runBit s = false then parkInInit s
  else if s.ctrlState = stInit then armInit s
  else if s.ctrlState = stLoop then armLoop s
  else if s.ctrlState = stOpenLoop then armOpenLoop c s
  else if s.ctrlState = stSpeedLoop then armSpeedLoop c s
  else armCurrentLoop c s

end Sys2Proof.Machine
end

