-- ==== Sys2Proof/Machine/Identifier.lean ====
section
/-! DEFINITION. The hall-sequence identifier and the loading of the run table (45_hall_identifier.md). -/

namespace Sys2Proof.Machine

/-- `ID_START` (rule R150): refused with `BADEV` in FAULT or an unknown state. -/
def idStart (c : Config) (s : State) : State :=
  if s.ctrlState.toNat ≥ 5 then raise .badEv s
  else
    parkInInit
      { s with
        ident := { active := true, vec := 0, icnt := 0, duty := 0, hallNow := 0, hallLast := 0, failCnt := 0,
                   map := offTable c }
        flags := { s.flags with idFail := false, idDone := false }
        pi2 := piClear s.pi2 }

/-- `ID_HANDOVER` (rule R153): refused with `BADEV` when no run is active. -/
def idHandover (s : State) : State :=
  if s.ident.active = false then raise .badEv s
  else { s with ident.active := false, out.pwmEn := false }

/-- `TBL_LOAD_ID` (rule R154): refused with `BADEV` until `ID_DONE`; it does not look at `ID_FAIL`. -/
def tblLoadId (s : State) : State :=
  if s.flags.idDone = false then raise .badEv s else { s with runTable := s.ident.map }

/-- `TBL_LOAD_CONST` (rule R155). -/
def tblLoadConst (c : Config) (s : State) : State := { s with runTable := constTable c }

/-- `ID_FAILED` (rule R152): the flag and the count, which saturates at 7. -/
def idFailed (s : State) : State :=
  let s := raise .idFail s
  if s.ident.failCnt.toNat < 7 then { s with ident.failCnt := s.ident.failCnt + 1 } else s

/-- Steps 1 to 3 of rule R151 at vector `v`: the current limiter, the duty, the vector's override pattern,
`PWM_EN`. -/
def idDrive (c : Config) (v : Fin 6) (s : State) : State :=
  let s := { s with pi2 := piRun c.idIlimit s.cur.ibusCal s.pi2 }
  let s := { s with ident.duty := BitVec.ofInt 32 (scale15 s.pi2.out.toInt s.latch.pwmPeriod.toNat) }
  let s := dutySet c s.ident.duty.toInt s
  { s with out.pwmOvr := c.svTable[v], out.pwmEn := true }

/-- Whether a reading fails: it is 0 or 7, or it equals the previous reading (rule R151, (a) and (b)). -/
def readingFails (code : BitVec 3) (s : State) : Bool :=
  decide (¬ ValidCode code ∨ code = s.ident.hallLast)

/-- Step (c) of rule R151: a valid reading records the vector's pattern in its row, also after a repeat; an invalid
one records nothing. -/
def idRecord (c : Config) (code : BitVec 3) (v : Fin 6) (t : SectorTable) : SectorTable :=
  if h : ValidCode code then t.set code.toNat c.idBldc[v] (by have := h.2; omega) else t

/-- Steps (a) to (e) of rule R151: the hall reading at the end of vector `v`'s interval. `ID_HALL_NOW` and
`ID_HALL_LAST` are both left at this reading, as the lines of rule R151 leave them and programs C and D end; rule
R187's remark that they "hold the last two identifier readings" says otherwise, and no entry of 90_conflicts.md
rules between them (notes/assumptions/11.md, DESIGN CHOICE). -/
def idReading (c : Config) (code : BitVec 3) (v : Fin 6) (s : State) : State :=
  let failed := readingFails code s
  let s := hallRead code s
  let s := { s with ident.hallNow := code }
  let s := if failed then idFailed s else s
  { s with
    ident.map := idRecord c code v s.ident.map
    ident.hallLast := code
    ident.vec := if failed && c.idAbortOnFail then 6 else s.ident.vec + 1
    ident.icnt := 0 }

/-- One tick of vector `v` (rule R151, `ID_VEC < 6`): drive, count, and read on the last tick of the interval. -/
def idVector (c : Config) (code : BitVec 3) (v : Fin 6) (s : State) : State :=
  let s := idDrive c v s
  if s.ident.icnt.toNat + 1 ≥ c.idInterval.toNat then idReading c code v s
  else { s with ident.icnt := s.ident.icnt + 1 }

/-- Completion (rules R151 and R157). -/
def idComplete (s : State) : State := { raise .idDone s with out.pwmEn := false }

/-- `ID_STEP(code)` (rule R151): the completion test follows the advance in the same tick. -/
def idStep (c : Config) (code : BitVec 3) (s : State) : State :=
  let s := if h : s.ident.vec.toNat < 6 then idVector c code ⟨s.ident.vec.toNat, h⟩ s else s
  if s.ident.vec.toNat ≥ 6 then idComplete s else s

end Sys2Proof.Machine
end

