-- ==== Sys2Proof/Machine/SystemOps.lean ====
section
/-! DEFINITION. The system operations (46_system_ops.md): reset and initialisation, the tick, the commands of the control
machine, and the register write and read of the slow context. -/

namespace Sys2Proof.Machine

/-- The lines of `INIT_BODY` before the configuration check (rule R174). `CTRL`, `RD_DATA` and the events still to
come are not written. -/
def initElements (c : Config) (s : State) : State :=
  tblLoadConst c
    { s with
      pi0 := piInit c.pi0 s.pi0
      pi1 := piInit c.pi1 s.pi1
      pi2 := piInit c.pi2 s.pi2
      flags := { hallFail := false, tmrErr := false, idFail := false, idDone := false, offsDone := false,
                 cfgErr := false, badEv := false }
      hall := { cur := 0, prev := 0, sector := 0, chg := false, hseed := false, tmr := 0, tmrRun := false,
                period := 0, stopCnt := 0 }
      spd := { maAcc := 0, maAvg := 0, speed := 0 }
      cur := { offsAcc := 0, offsCnt := 0, offset := 0, ibusCal := 0, lpfAcc := 0, ibusFilt := 0 }
      ctrlState := stInit
      latch := { ibusRaw := 0, ctrlIn := 0, pwmPeriod := 0 }
      ctx := { inSector := 0, inSpeed := 0, inDir := false, inIbus := 0, commSector := 0, tgtSpeed := 0,
               tgtCurrent := 0, tgtDuty := 0 }
      out := { s.out with pwmEn := false, pwmDuty := c.minDuty, pwmOvr := offRow c }
      ident := { active := false, vec := 0, icnt := 0, duty := 0, hallNow := 0, hallLast := 0, failCnt := 0,
                 map := offTable c } }

/-- `INIT_BODY` (rule R174): a defective configuration raises `CFGERR` and puts the machine in FAULT. -/
def initBody (c : Config) (s : State) : State :=
  let s := initElements c s
  if cfgCheck c then enterFault (raise .cfgErr s) else s

/-- `RESET` (rule R165). -/
def resetOp (c : Config) (s : State) : State :=
  initBody c { s with ctrl := 0, out.rdData := 0 }

/-- The latches of a tick (rules R17 and R167). -/
def latchInputs (ibus pot per : Word) (s : State) : State :=
  { s with latch := { ibusRaw := ibus, ctrlIn := ctrlInOf pot, pwmPeriod := per } }

/-- The estimators and filters of a tick, up to the choice of the last unit (rule R167). -/
def tickFront (c : Config) (code : BitVec 3) (ibus pot per : Word) (s : State) : State :=
  curStep c (speedCalc c (hallHandler c code (latchInputs ibus pot per s)))

/-- `TICK(code, ibus, pot, per)` (rule R167): latches, hall, speed, current, then the identifier if it is active, else
the control machine. -/
def tick (c : Config) (code : BitVec 3) (ibus pot per : Word) (s : State) : State :=
  let s := tickFront c code ibus pot per s
  if s.ident.active = true then idStep c code s else ctrlStep c s

/-- `CTRL_RESET` (rule R177): the only exit from FAULT short of `INIT` and `RESET`; refused with `CFGERR` or while the
identifier is active. -/
def ctrlReset (s : State) : State :=
  if s.flags.cfgErr = true ∨ s.ident.active = true then raise .badEv s else parkInInit s

/-- `CTRL_FAULT` (rule R178): always accepted. -/
def ctrlFault (s : State) : State := { enterFault s with ident.active := false }

/-- `CMD_DISPATCH(v)` (rule R172). -/
def cmdDispatch (c : Config) (v : Word) (s : State) : State :=
  if v = 0 then s
  else if v = 1 then initBody c s
  else if v = 2 then idStart c s
  else if v = 3 then idHandover s
  else if v = 4 then tblLoadConst c s
  else if v = 5 then tblLoadId s
  else if v = 6 then ctrlReset s
  else if v = 7 then ctrlFault s
  else raise .badEv s

/-- `CTRL <- v[3:0]` (rule R45): bits 15:4 are ignored. -/
def writeCtrl (v : Word) (s : State) : State := { s with ctrl := v.extractLsb' 0 4 }

/-- The write to `STATUS` (rule R45). -/
def writeStatus (v : Word) (s : State) : State := { s with flags := clearFlags v s.flags }

/-- `MemWrite(addr, 1, v)`, the whole body of a `WR` (rule R45). -/
def memWrite (c : Config) (addr : BitVec 8) (v : Word) (s : State) : State :=
  if addr = 0x00 then cmdDispatch c v s
  else if addr = 0x01 then writeCtrl v s
  else if addr = 0x02 then writeStatus v s
  else writeRunTable addr v s

/-- `RD(addr)` (rule R170). -/
def readToPort (addr : BitVec 8) (s : State) : State := { s with out.rdData := memRead s addr }

end Sys2Proof.Machine
end

