-- ==== Sys2Proof/Machine/Commands.lean ====
section
/-! DEFINITION. The meanings of the commands, the `WR` events to `CMD` (rules R69 and R172). -/

namespace Sys2Proof.Machine

/-- `NOP` changes no state (rule R171). -/
def execCmdNop (s : State) : Result := .next s

/-- `INIT` (rule R175): `INIT_BODY`; `CTRL` and `RD_DATA` keep their values. -/
def execCmdInit (s : State) : Result := .next (initBody Config.cfg s)

/-- `ID_START` (rule R150). -/
def execCmdIdStart (s : State) : Result := .next (idStart Config.cfg s)

/-- `ID_HANDOVER` (rule R153). -/
def execCmdIdHandover (s : State) : Result := .next (idHandover s)

/-- `TBL_LOAD_CONST` (rule R155). -/
def execCmdTblLoadConst (s : State) : Result := .next (tblLoadConst Config.cfg s)

/-- `TBL_LOAD_ID` (rule R154). -/
def execCmdTblLoadId (s : State) : Result := .next (tblLoadId s)

/-- `CTRL_RESET` (rule R177). -/
def execCmdCtrlReset (s : State) : Result := .next (ctrlReset s)

/-- `CTRL_FAULT` (rule R178). -/
def execCmdCtrlFault (s : State) : Result := .next (ctrlFault s)

/-- A reserved command code raises `BADEV`; nothing else changes (rule R173). -/
def execCmdRsvd (_code : Word) (s : State) : Result := .next (raise .badEv s)

end Sys2Proof.Machine
end

