-- ==== Sys2Proof/Machine/Events.lean ====
section
/-! DEFINITION. The meanings of the events that are not register writes: `NOPEV`, `RESET`, `TICK`, `TCLK`, `RD`, `RSVD`. -/

namespace Sys2Proof.Machine

/-- `NOPEV` changes no state (rule R166). -/
def execNopev (s : State) : Result := .next s

/-- `RESET` (rule R165). -/
def execReset (s : State) : Result := .next (resetOp Config.cfg s)

/-- `TICK` (rule R167). -/
def execTick (code : BitVec 3) (ibus pot per : Word) (s : State) : Result :=
  .next (tick Config.cfg code ibus pot per s)

/-- `TCLK` (rule R114). -/
def execTclk (n : DWord) (s : State) : Result := .next (tclk n s)

/-- `RD` (rule R170). -/
def execRd (addr : BitVec 8) (s : State) : Result := .next (readToPort addr s)

/-- `RSVD` (rule R179): the reserved or malformed word raises `BADEV` and does nothing else. -/
def execRsvd (_word : EventWord) (s : State) : Result := .next (raise .badEv s)

end Sys2Proof.Machine
end

