-- ==== Sys2Proof/Machine/RegisterWrites.lean ====
section
/-! DEFINITION. The meanings of the `WR` events to the other addresses (rules R45, R46 and R169). -/

namespace Sys2Proof.Machine

/-- `WR CTRL`. -/
def execWrCtrl (data : Word) (s : State) : Result := .next (writeCtrl data s)

/-- `WR STATUS`. -/
def execWrStatus (data : Word) (s : State) : Result := .next (writeStatus data s)

/-- `WR` to `RUN_TABLE` at 0x80 + `lo`. -/
def execWrTbl8x (lo : BitVec 4) (data : Word) (s : State) : Result :=
  .next (writeRunTable (0x8#4 ++ lo) data s)

/-- `WR` to `RUN_TABLE` at 0x90 + `lo`. -/
def execWrTbl9x (lo : BitVec 2) (data : Word) (s : State) : Result :=
  .next (writeRunTable (0x24#6 ++ lo) data s)

/-- `WR` to `RUN_TABLE` at 0x94. -/
def execWrTbl94 (data : Word) (s : State) : Result := .next (writeRunTable 0x94 data s)

/-- `WR` to a read-only or unmapped address raises `BADEV` and writes nothing (rule R46). -/
def execWrRo (_addr : BitVec 8) (_data : Word) (s : State) : Result := .next (raise .badEv s)

end Sys2Proof.Machine
end

