-- ==== Sys2Proof/Machine/Dispatch.lean ====
section
/-! DEFINITION. `exec`: one arm per constructor of `Instr`, each a direct call of its meaning. -/

namespace Sys2Proof.Machine

def exec (i : Instr) (s : State) : Host.Outcome State Fault Refusal :=
  match i with
  | .nopev => Sys2Proof.Machine.execNopev s
  | .reset => Sys2Proof.Machine.execReset s
  | .tick code ibus pot per => Sys2Proof.Machine.execTick code ibus pot per s
  | .tclk n => Sys2Proof.Machine.execTclk n s
  | .cmdNop => Sys2Proof.Machine.execCmdNop s
  | .cmdInit => Sys2Proof.Machine.execCmdInit s
  | .cmdIdStart => Sys2Proof.Machine.execCmdIdStart s
  | .cmdIdHandover => Sys2Proof.Machine.execCmdIdHandover s
  | .cmdTblLoadConst => Sys2Proof.Machine.execCmdTblLoadConst s
  | .cmdTblLoadId => Sys2Proof.Machine.execCmdTblLoadId s
  | .cmdCtrlReset => Sys2Proof.Machine.execCmdCtrlReset s
  | .cmdCtrlFault => Sys2Proof.Machine.execCmdCtrlFault s
  | .cmdRsvd code => Sys2Proof.Machine.execCmdRsvd code s
  | .wrCtrl data => Sys2Proof.Machine.execWrCtrl data s
  | .wrStatus data => Sys2Proof.Machine.execWrStatus data s
  | .wrTbl8x lo data => Sys2Proof.Machine.execWrTbl8x lo data s
  | .wrTbl9x lo data => Sys2Proof.Machine.execWrTbl9x lo data s
  | .wrTbl94 data => Sys2Proof.Machine.execWrTbl94 data s
  | .wrRo addr data => Sys2Proof.Machine.execWrRo addr data s
  | .rd addr => Sys2Proof.Machine.execRd addr s
  | .rsvd word => Sys2Proof.Machine.execRsvd word s

end Sys2Proof.Machine
end

