-- ==== Sys2Proof/Machine/Step.lean ====
section
/-! DEFINITION. `step`: one event of one agent, applied whole (rules R9, R48 and R168). The block fetches nothing (rule
R13): the next event is the one the environment presents. -/

namespace Sys2Proof.Machine

/-- Decode and apply the next presented event. With none presented the block does nothing and its state does not
change (rule R199). -/
def step (s : State) : Host.Outcome State Fault Refusal :=
  match takeEvent s with
  | none => .next s
  | some (w, s') => exec (decode w) s'

/-- `s` with the event word of `nbits` bits `w` (the bits above them 0) presented as the next event. -/
def State.withFetchWord (s : State) (nbits w : Nat) : State := presentEvent (eventWordOf nbits w) s

end Sys2Proof.Machine
end

