-- ==== Sys2Proof/Safety.lean ====
section
/-! DEFINITION. The terms the statements use: the invariants of a run, the table of reset values, the table of control-state
changes, and runs of several ticks. -/

namespace Sys2Proof.Machine

/-! ## Invariants -/

/-- Rule R29 for one bank: `INTEG` and `OUT` within the bounds, or the bank as a clear left it (no update since). -/
def BankInRange (b : PiBank) : Prop :=
  b.outMin.toInt ≤ b.outMax.toInt →
    ((b.outMin.toInt ≤ b.integ.toInt ∧ b.integ.toInt ≤ b.outMax.toInt)
      ∧ (b.outMin.toInt ≤ b.out.toInt ∧ b.out.toInt ≤ b.outMax.toInt))
    ∨ piClear b = b

/-- The speed filter of rule R29: the average is the accumulator shifted, the accumulator is bounded (for a shift of
rule R5's range 0..15). -/
def FilterInRange (c : Config) (sp : SpeedState) : Prop :=
  c.maShift ≤ 15 →
    sp.maAvg.toNat = sp.maAcc.toNat / 2 ^ c.maShift ∧ sp.maAcc.toNat ≤ 2 ^ (32 + c.maShift) - 1

/-- The offset calibration: the count stops at `2^OFFS_SHIFT`, which is where `OFFS_DONE` is set, and the sum is one of
that many int16 samples (rules R29, R125 and R195, for a shift of rule R5's range 0..15). -/
def OffsetInRange (c : Config) (s : State) : Prop :=
  c.offsShift ≤ 15 →
    s.cur.offsCnt.toNat ≤ 2 ^ c.offsShift
    ∧ (s.flags.offsDone = true ↔ s.cur.offsCnt.toNat = 2 ^ c.offsShift)
    ∧ -(32768 * (s.cur.offsCnt.toNat : Int)) ≤ s.cur.offsAcc.toInt
    ∧ s.cur.offsAcc.toInt ≤ 32767 * (s.cur.offsCnt.toNat : Int)

/-- Rule R29, with the duty ranges of rules R18 and R23. -/
structure InRange (c : Config) (s : State) : Prop where
  ctrlIn : 0 ≤ s.latch.ctrlIn.toInt
  speed : 0 ≤ s.spd.speed.toInt
  inSpeed : 0 ≤ s.ctx.inSpeed.toInt
  sector : s.hall.sector.toNat ≤ 6
  vec : s.ident.vec.toNat ≤ 6
  chg : s.hall.chg = false
  filter : FilterInRange c s.spd
  offset : OffsetInRange c s
  icnt : 1 ≤ c.idInterval.toNat → s.ident.icnt.toNat < c.idInterval.toNat
  duty : c.minDuty.toNat ≤ c.maxDuty.toNat →
    c.minDuty.toNat ≤ s.out.pwmDuty.toNat ∧ s.out.pwmDuty.toNat ≤ c.maxDuty.toNat
  tgtDuty : -65535 ≤ s.ctx.tgtDuty.toInt ∧ s.ctx.tgtDuty.toInt ≤ 65533
  idDuty : -65535 ≤ s.ident.duty.toInt ∧ s.ident.duty.toInt ≤ 65533
  pi0 : BankInRange s.pi0
  pi1 : BankInRange s.pi1
  pi2 : BankInRange s.pi2

/-- Rule R142: when the PWM may be enabled, and where the control machine is parked during identification. -/
structure PwmGated (s : State) : Prop where
  enabled : s.out.pwmEn = true →
    (s.ident.active = false
      ∧ (s.ctrlState = stOpenLoop ∨ s.ctrlState = stSpeedLoop ∨ s.ctrlState = stCurrentLoop))
    ∨ (s.ident.active = true ∧ s.ident.vec.toNat < 6)
  parked : s.ident.active = true → s.ctrlState = stInit

/-- Rules R15 and R174: `CFGERR` says whether the configuration is defective, and an instance with a defect never drives
the motor. -/
structure DefectHeld (c : Config) (s : State) : Prop where
  flag : s.flags.cfgErr = cfgCheck c
  held : cfgCheck c = true → s.ctrlState = stFault ∧ s.ident.active = false ∧ s.out.pwmEn = false

/-- The gains and bounds of a bank equal its configuration (rules R12 and R100). -/
def HoldsGains (k : PiConfig) (b : PiBank) : Prop :=
  b.kp = k.kp ∧ b.ki = k.ki ∧ b.kc = k.kc ∧ b.outMin = k.outMin ∧ b.outMax = k.outMax

/-- The bookkeeping between elements: the banks hold the configuration (rule R100), `ID_FAIL` is 1 exactly when
`ID_FAILCNT` is not 0 (90_conflicts.md C5), the calibrated and the filtered current are 0 until `OFFS_DONE` (rule R128),
row 0 of `ID_MAP` is `OVR_OFF` (rule R23). -/
structure Bookkeeping (c : Config) (s : State) : Prop where
  pi0 : HoldsGains c.pi0 s.pi0
  pi1 : HoldsGains c.pi1 s.pi1
  pi2 : HoldsGains c.pi2 s.pi2
  failures : s.flags.idFail = true ↔ s.ident.failCnt ≠ 0
  uncalibrated : s.flags.offsDone = false → s.cur.ibusCal = 0 ∧ s.cur.ibusFilt = 0 ∧ s.cur.lpfAcc = 0
  rowZero : ∀ ch : Fin 3, s.ident.map[0][ch] = c.ovrOff

/-! ## Reset -/

/-- A bank's dynamic registers are 0. -/
def BankCleared (b : PiBank) : Prop :=
  b.integ = 0 ∧ b.ref = 0 ∧ b.meas = 0 ∧ b.out = 0 ∧ b.exc = 0

/-- The table of rule R28 but for its first two rows (`CTRL` and `RD_DATA`), which `INIT` leaves alone. -/
structure ResetTable (c : Config) (t : State) : Prop where
  ctrlState : t.ctrlState = if cfgCheck c then stFault else stInit
  flags : t.flags.hallFail = false ∧ t.flags.tmrErr = false ∧ t.flags.idFail = false ∧ t.flags.idDone = false
    ∧ t.flags.offsDone = false ∧ t.flags.cfgErr = cfgCheck c ∧ t.flags.badEv = false
  status : memRead t 0x02 = if cfgCheck c then 0x0060 else 0x0040
  gains : HoldsGains c.pi0 t.pi0 ∧ HoldsGains c.pi1 t.pi1 ∧ HoldsGains c.pi2 t.pi2
  banks : BankCleared t.pi0 ∧ BankCleared t.pi1 ∧ BankCleared t.pi2
  latches : t.latch.ibusRaw = 0 ∧ t.latch.ctrlIn = 0 ∧ t.latch.pwmPeriod = 0
  inputs : t.ctx.inSector = 0 ∧ t.ctx.inSpeed = 0 ∧ t.ctx.inDir = false ∧ t.ctx.inIbus = 0
  targets : t.ctx.commSector = 0 ∧ t.ctx.tgtSpeed = 0 ∧ t.ctx.tgtCurrent = 0 ∧ t.ctx.tgtDuty = 0
  outputs : t.out.pwmEn = false ∧ t.out.pwmDuty = c.minDuty ∧ ∀ ch : Fin 3, t.out.pwmOvr[ch] = c.ovrOff
  hall : t.hall.cur = 0 ∧ t.hall.prev = 0 ∧ t.hall.sector = 0 ∧ t.hall.chg = false ∧ t.hall.hseed = false
    ∧ t.hall.tmr = 0 ∧ t.hall.tmrRun = false ∧ t.hall.period = 0 ∧ t.hall.stopCnt = 0
  speed : t.spd.maAcc = 0 ∧ t.spd.maAvg = 0 ∧ t.spd.speed = 0
  current : t.cur.offsAcc = 0 ∧ t.cur.offsCnt = 0 ∧ t.cur.offset = 0 ∧ t.cur.ibusCal = 0 ∧ t.cur.lpfAcc = 0
    ∧ t.cur.ibusFilt = 0
  identifier : t.ident.active = false ∧ t.ident.vec = 0 ∧ t.ident.icnt = 0 ∧ t.ident.duty = 0
    ∧ t.ident.hallNow = 0 ∧ t.ident.hallLast = 0 ∧ t.ident.failCnt = 0
  idMap : ∀ (r : Fin 7) (ch : Fin 3), t.ident.map[r][ch] = c.ovrOff
  runTableOff : ∀ ch : Fin 3, t.runTable[0][ch] = c.ovrOff
  runTable : ∀ (r : Fin 6) (ch : Fin 3), t.runTable[r.val + 1][ch] = c.bldcConst[r][ch]

/-! ## The control state -/

/-- `CTRL_STATE` after a tick, by the rows of rule R141. -/
def ctrlStateAfterTick (s : State) : BitVec 3 :=
  if s.ident.active then s.ctrlState
  else if s.ctrlState.toNat ≥ 5 then stFault
  else if runBit s = false then stInit
  else if s.ctrlState = stInit then stLoop
  else if s.ctrlState = stLoop then
    (if modeField s = 0 then stOpenLoop else if modeField s = 1 then stSpeedLoop
      else if modeField s = 2 then stCurrentLoop else stFault)
  else s.ctrlState

/-- `CTRL_STATE` after any event, by the rows of rule R141: "No other operation writes CTRL_STATE". -/
def ctrlStateAfter (c : Config) (i : Instr) (s : State) : BitVec 3 :=
  match i with
  | .tick .. => ctrlStateAfterTick s
  | .cmdIdStart => if s.ctrlState.toNat < 5 then stInit else s.ctrlState
  | .cmdCtrlReset => if s.flags.cfgErr = false ∧ s.ident.active = false then stInit else s.ctrlState
  | .cmdCtrlFault => stFault
  | .cmdInit | .reset => if cfgCheck c then stFault else stInit
  | .cmdIdHandover => s.ctrlState
  | .nopev | .tclk _ | .cmdNop | .cmdTblLoadConst | .cmdTblLoadId | .cmdRsvd _ | .wrCtrl _ | .wrStatus _
  | .wrTbl8x .. | .wrTbl9x .. | .wrTbl94 _ | .wrRo .. | .rd _ | .rsvd _ => s.ctrlState

/-- `PWM_EN` after an event that is not a tick of the identifier, by the outputs column of rule R141 and rule R153. -/
def pwmEnAfter (i : Instr) (s : State) : Bool :=
  match i with
  | .tick .. =>
    if s.ctrlState.toNat ≥ 5 then false
    else if runBit s = false then false
    else if s.ctrlState = stInit then s.out.pwmEn
    else if s.ctrlState = stLoop then (if modeField s = 3 then false else s.out.pwmEn)
    else true
  | .cmdIdStart => if s.ctrlState.toNat < 5 then false else s.out.pwmEn
  | .cmdIdHandover => if s.ident.active then false else s.out.pwmEn
  | .cmdCtrlReset => if s.flags.cfgErr = false ∧ s.ident.active = false then false else s.out.pwmEn
  | .cmdCtrlFault | .cmdInit | .reset => false
  | .nopev | .tclk _ | .cmdNop | .cmdTblLoadConst | .cmdTblLoadId | .cmdRsvd _ | .wrCtrl _ | .wrStatus _
  | .wrTbl8x .. | .wrTbl9x .. | .wrTbl94 _ | .wrRo .. | .rd _ | .rsvd _ => s.out.pwmEn

/-! ## Flags -/

/-- The state with the four flags that only `RD` reads (rule R15: `HALLFAIL`, `TMRERR`, `ID_FAIL`, `BADEV`) put to 0. -/
def withoutReportFlags (s : State) : State :=
  { s with flags := { s.flags with hallFail := false, tmrErr := false, idFail := false, badEv := false } }

/-! ## Runs of ticks -/

/-- The operands of one `TICK`. -/
structure TickInput where
  /-- the hall code. -/
  code : BitVec 3
  /-- the raw current. -/
  ibus : Word
  /-- the control input sample. -/
  pot : Word
  /-- the PWM period. -/
  per : Word
deriving DecidableEq, Repr

/-- Consecutive ticks of an instance with configuration `c`. -/
def runTicks (c : Config) : List TickInput → State → State
  | [], s => s
  | x :: xs, s => runTicks c xs (tick c x.code x.ibus x.pot x.per s)

/-- The sum of the raw current samples. -/
def ibusSum (xs : List TickInput) : Int := (xs.map (fun x => x.ibus.toInt)).sum

end Sys2Proof.Machine
end

