-- ==== Sys2Proof/Certificates/Slice0/Obligations.lean ====
section
/-! DEFINITION. The statements for the provers. Each docstring names the rule of spec/ the statement comes from. A statement over
`exec` holds for every configuration, since `Config.cfg` is opaque; one over an operation says `∀ c` itself. -/

open Sys2Proof Sys2Proof.Machine

/-! ## Encoding and decoding -/

/-- Rules R60 to R64, R69 and R77: decoding the word of a well-formed operation gives the operation back, every operand
at every value. That `rsvd` has its word as an operand is the model's choice (notes/assumptions/7.md, DEDUCED): rules
R65 and R179 give `RSVD` no operands, so for `rsvd` this speaks of the model's constructor. -/
def Obligations.DecodeInvertsEncode : Prop :=
  ∀ i : Instr, i.wf = true → decode (encode i) = i

/-- Every 64-bit word is the word of the well-formed operation it decodes to. For the valid forms this is rules R60 to
R64, R69 and R77. For the reserved and malformed words, the reserved codes and the writes to read-only or unmapped
addresses it is the MODEL's choice (notes/assumptions/7.md, DEDUCED): it holds only because `rsvd`, `cmdRsvd` and `wrRo`
keep the whole word, the code, and the address with its data. Rule R65 says only which words are `RSVD`, and rule R179
gives `RSVD` no operands; that no two of those words share an operation is no statement of the spec. -/
def Obligations.EncodeInvertsDecode : Prop :=
  ∀ w : EventWord, (decode w).wf = true ∧ encode (decode w) = w

/-- Rule R77: the operation a word decodes to is that of the first row of the opcode table it matches. -/
def Obligations.DecodeTakesTheFirstTableRow : Prop :=
  ∀ w : EventWord, (decode w).rowIndex = firstMatchingRow w

/-- Rules R80 and R81: the worked event words, read right. That the malformed word of the last clause stands in its
`rsvd` is the model's choice (notes/assumptions/7.md, DEDUCED). -/
def Obligations.WorkedWordsDecode : Prop :=
  decode 0x10050000400007D0 = .tick 5 0 16384 2000
    ∧ decode 0x10030834400003E8 = .tick 3 2100 16384 1000
    ∧ decode 0x20000000000003E8 = .tclk 1000
    ∧ decode 0x3000000000010005 = .wrCtrl 0x0005
    ∧ decode 0x300000000089000D = .wrTbl8x 9 0x000D
    ∧ decode 0x4000000000020000 = .rd 0x02
    ∧ decode 0x3000000000000002 = .cmdIdStart
    ∧ decode 0xF000000000000000 = .reset
    ∧ decode 0x100D0000000007D0 = .rsvd 0x100D0000000007D0

/-- Rules R65 and R179: a word is reserved or malformed exactly when it decodes to `RSVD`, whose whole effect is to
raise `BADEV`. (`rsvd w` is how the model writes that event; the word it carries, notes/assumptions/7.md, has no part in
the effect.) -/
def Obligations.MalformedWordsOnlyRaiseBadev : Prop :=
  ∀ (w : EventWord) (s : State),
    ((5 ≤ (w.extractLsb' 60 4).toNat ∧ (w.extractLsb' 60 4).toNat ≤ 0xE)
      ∨ (w.extractLsb' 60 4 = 0x0 ∧ w ≠ 0)
      ∨ (w.extractLsb' 60 4 = 0xF ∧ w.extractLsb' 0 60 ≠ 0)
      ∨ (w.extractLsb' 60 4 = 0x1 ∧ w.extractLsb' 51 9 ≠ 0)
      ∨ (w.extractLsb' 60 4 = 0x2 ∧ w.extractLsb' 32 28 ≠ 0)
      ∨ (w.extractLsb' 60 4 = 0x3 ∧ w.extractLsb' 24 36 ≠ 0)
      ∨ (w.extractLsb' 60 4 = 0x4 ∧ (w.extractLsb' 24 36 ≠ 0 ∨ w.extractLsb' 0 16 ≠ 0))
      ↔ decode w = .rsvd w)
    ∧ exec (.rsvd w) s = .next { s with flags := { s.flags with badEv := true } }

/-! ## The step -/

/-- Rules R9 and R168: with an event presented, `step` takes it from the inbox and applies the operation it decodes
to. The inbox, and that the step takes the event from it, are the model's choice (notes/assumptions/3.md, DESIGN
CHOICE). -/
def Obligations.StepAppliesThePresentedEvent : Prop :=
  ∀ (s : State) (w : EventWord) (rest : List EventWord) (i : Instr),
    s.inbox = w :: rest → decode w = i → i.wf = true → step s = exec i { s with inbox := rest }

/-- The model's choice (notes/assumptions/3.md, DESIGN CHOICE): with no event presented the step leaves the state as it is.
It follows the sentence of rule R199 that between events the block "does nothing and its state does not change". -/
def Obligations.StepWithNoEventChangesNothing : Prop :=
  ∀ s : State, s.inbox = [] → step s = .next s

/-- Rules R7, R168 and R185: every event runs to its end in every state. That none touches the events still to come is of
the model's own field `inbox` (notes/assumptions/3.md, DESIGN CHOICE). -/
def Obligations.EveryEventCompletes : Prop :=
  ∀ (i : Instr) (s : State), ∃ t, exec i s = .next t ∧ t.inbox = s.inbox

/-! ## Reset and the configuration check -/

/-- Rules R28, R165 and R175: `RESET` and `INIT` from any state; `INIT` leaves `CTRL` and `RD_DATA` alone. -/
def Obligations.ResetAndInitLeaveTheResetTable : Prop :=
  ∀ s : State,
    (∃ t, exec .reset s = .next t ∧ t.ctrl = 0 ∧ t.out.rdData = 0 ∧ ResetTable Config.cfg t)
    ∧ (∃ t, exec .cmdInit s = .next t ∧ t.ctrl = s.ctrl ∧ t.out.rdData = s.out.rdData ∧ ResetTable Config.cfg t)

/-- Rules R28 and R165: the state after the `RESET` event is `State.reset`, whatever came before, with the events still to come
(the model's own field, notes/assumptions/3.md) as they were. -/
def Obligations.ResetEventGivesTheResetState : Prop :=
  ∀ s : State, exec .reset s = .next { State.reset with inbox := s.inbox }

/-- Rule R176: `CFG_CHECK` finds exactly the nine defects. -/
def Obligations.CfgCheckFindsExactlyNineDefects : Prop :=
  ∀ c : Config, cfgCheck c = true ↔
    (c.pi0.outMin.toInt > c.pi0.outMax.toInt ∨ c.pi1.outMin.toInt > c.pi1.outMax.toInt
        ∨ c.pi2.outMin.toInt > c.pi2.outMax.toInt)
    ∨ c.polePairs.toNat = 0
    ∨ (c.minSpeed.toInt < 0 ∨ c.maxSpeed.toInt < c.minSpeed.toInt)
    ∨ c.ratedCurrent.toInt ≤ 0
    ∨ c.minDuty.toNat > c.maxDuty.toNat
    ∨ c.idInterval.toNat = 0
    ∨ c.speedMult.toNat = 0
    ∨ (c.maShift > 15 ∨ c.offsShift > 15)
    ∨ ∃ i j : Fin 6, i < j ∧ ∀ ch : Fin 3, c.bldcConst[i][ch] = c.bldcConst[j][ch]

/-! ## The register space -/

/-- Rules R41, R44, R47, R72 and R75: what every address reads, wide elements low word first, unmapped addresses 0. -/
def Obligations.RegisterMapReadsEveryElement : Prop :=
  ∀ s : State,
    (memRead s 0x00 = 0 ∧ (memRead s 0x01).toNat = s.ctrl.toNat ∧ (memRead s 0x03).toNat = s.ctrlState.toNat
      ∧ memRead s 0x04 = (if s.out.pwmEn then 1 else 0) ∧ memRead s 0x05 = s.out.pwmDuty
      ∧ memRead s 0x06 = s.out.pwmOvr[0] ∧ memRead s 0x07 = s.out.pwmOvr[1] ∧ memRead s 0x08 = s.out.pwmOvr[2]
      ∧ memRead s 0x09 = s.latch.ctrlIn ∧ memRead s 0x0A = s.latch.pwmPeriod
      ∧ memRead s 0x0C = s.ctx.tgtSpeed ∧ memRead s 0x0D = s.ctx.tgtCurrent
      ∧ memRead s 0x0F ++ memRead s 0x0E = s.ctx.tgtDuty)
    ∧ ((memRead s 0x02).getLsbD 0 = s.flags.hallFail ∧ (memRead s 0x02).getLsbD 1 = s.flags.tmrErr
      ∧ (memRead s 0x02).getLsbD 2 = s.flags.idFail ∧ (memRead s 0x02).getLsbD 3 = s.flags.idDone
      ∧ (memRead s 0x02).getLsbD 4 = s.flags.offsDone ∧ (memRead s 0x02).getLsbD 5 = s.flags.cfgErr
      ∧ (memRead s 0x02).getLsbD 6 = decide (s.hall.stopCnt = 0) ∧ (memRead s 0x02).getLsbD 7 = s.flags.badEv
      ∧ (memRead s 0x02).extractLsb' 8 8 = 0)
    ∧ ((memRead s 0x0B).extractLsb' 0 3 = s.ctx.commSector ∧ (memRead s 0x0B).extractLsb' 4 3 = s.ctx.inSector
      ∧ (memRead s 0x0B).getLsbD 8 = s.ctx.inDir ∧ memRead s 0x0B &&& 0xFE88 = 0)
    ∧ (∀ (b : PiBank) (base : Nat), (base, b) ∈ [(0x10, s.pi0), (0x20, s.pi1), (0x30, s.pi2)] →
      memRead s (BitVec.ofNat 8 base) = b.kp ∧ memRead s (BitVec.ofNat 8 (base + 1)) = b.ki
      ∧ memRead s (BitVec.ofNat 8 (base + 2)) = b.kc ∧ memRead s (BitVec.ofNat 8 (base + 3)) = b.outMin
      ∧ memRead s (BitVec.ofNat 8 (base + 4)) = b.outMax ∧ memRead s (BitVec.ofNat 8 (base + 5)) = b.integ
      ∧ memRead s (BitVec.ofNat 8 (base + 6)) = b.ref ∧ memRead s (BitVec.ofNat 8 (base + 7)) = b.meas
      ∧ memRead s (BitVec.ofNat 8 (base + 8)) = b.out ∧ memRead s (BitVec.ofNat 8 (base + 9)) = b.exc)
    ∧ (memRead s 0x1A = s.ctx.inSpeed ∧ memRead s 0x1B = s.ctx.inIbus)
    ∧ ((memRead s 0x40).extractLsb' 0 3 = s.hall.cur ∧ (memRead s 0x40).extractLsb' 4 3 = s.hall.prev
      ∧ (memRead s 0x40).extractLsb' 8 3 = s.hall.sector ∧ (memRead s 0x40).getLsbD 12 = s.hall.chg
      ∧ (memRead s 0x40).getLsbD 13 = s.hall.tmrRun ∧ (memRead s 0x40).getLsbD 14 = s.hall.hseed
      ∧ memRead s 0x40 &&& 0x8888 = 0)
    ∧ (memRead s 0x41 = s.hall.stopCnt ∧ memRead s 0x43 ++ memRead s 0x42 = s.hall.tmr
      ∧ memRead s 0x45 ++ memRead s 0x44 = s.hall.period ∧ memRead s 0x47 ++ memRead s 0x46 = s.spd.maAvg
      ∧ memRead s 0x4A ++ memRead s 0x49 ++ memRead s 0x48 = s.spd.maAcc ∧ memRead s 0x4B = s.spd.speed)
    ∧ (memRead s 0x50 = s.cur.offset ∧ memRead s 0x51 = s.cur.offsCnt
      ∧ memRead s 0x53 ++ memRead s 0x52 = s.cur.offsAcc ∧ memRead s 0x54 = s.latch.ibusRaw
      ∧ memRead s 0x55 = s.cur.ibusCal ∧ memRead s 0x56 = s.cur.ibusFilt
      ∧ memRead s 0x58 ++ memRead s 0x57 = s.cur.lpfAcc)
    ∧ ((memRead s 0x60).extractLsb' 0 3 = s.ident.vec ∧ (memRead s 0x60).getLsbD 3 = s.ident.active
      ∧ (memRead s 0x60).extractLsb' 4 3 = s.ident.hallNow ∧ (memRead s 0x60).extractLsb' 8 3 = s.ident.hallLast
      ∧ (memRead s 0x60).extractLsb' 12 3 = s.ident.failCnt ∧ memRead s 0x60 &&& 0x8880 = 0)
    ∧ (memRead s 0x61 = s.ident.icnt ∧ memRead s 0x63 ++ memRead s 0x62 = s.ident.duty)
    ∧ (∀ (r : Fin 7) (ch : Fin 3),
      memRead s (BitVec.ofNat 8 (0x80 + 3 * r.val + ch.val)) = s.runTable[r][ch]
      ∧ memRead s (BitVec.ofNat 8 (0xA0 + 3 * r.val + ch.val)) = s.ident.map[r][ch])
    ∧ (∀ a : BitVec 8,
      (0x1C ≤ a.toNat ∧ a.toNat ≤ 0x1F) ∨ (0x2A ≤ a.toNat ∧ a.toNat ≤ 0x2F) ∨ (0x3A ≤ a.toNat ∧ a.toNat ≤ 0x3F)
        ∨ (0x4C ≤ a.toNat ∧ a.toNat ≤ 0x4F) ∨ (0x59 ≤ a.toNat ∧ a.toNat ≤ 0x5F)
        ∨ (0x64 ≤ a.toNat ∧ a.toNat ≤ 0x7F) ∨ (0x95 ≤ a.toNat ∧ a.toNat ≤ 0x9F) ∨ 0xB5 ≤ a.toNat →
      memRead s a = 0)

/-- Rule R170: `RD` puts the word read into `RD_DATA` and changes nothing else; `CMD` reads 0, and no flag is raised. -/
def Obligations.ReadWritesOnlyRdData : Prop :=
  ∀ (a : BitVec 8) (s : State),
    exec (.rd a) s = .next { s with out := { s.out with rdData := memRead s a } }
    ∧ (mappedWord s a = none ∨ a = 0x00 → memRead s a = 0)

/-- Rule R46: a `WR` to a read-only or unmapped address raises `BADEV` and changes nothing else. The writable addresses
are `CMD`, `CTRL`, `STATUS` and 0x80 to 0x94. -/
def Obligations.WritesElsewhereOnlyRaiseBadev : Prop :=
  ∀ (addr : BitVec 8) (data : Word) (s : State),
    addr ≠ 0x00 ∧ addr ≠ 0x01 ∧ addr ≠ 0x02 ∧ ¬(0x80 ≤ addr.toNat ∧ addr.toNat ≤ 0x94) →
    decode (encodeWr addr data) = .wrRo addr data
    ∧ exec (.wrRo addr data) s = .next { s with flags := { s.flags with badEv := true } }

/-- Rules R45 and R68: a `WR` to a word of `RUN_TABLE` replaces that word; every other address reads as before and no
other element changes. The three rows of the opcode table cover addresses 0x80 + 3·r + ch. -/
def Obligations.TableWritesReplaceOneWord : Prop :=
  ∀ (r : Fin 7) (ch : Fin 3) (data : Word) (s : State) (i : Instr),
    (∃ lo : BitVec 4, i = .wrTbl8x lo data ∧ 0x80 + lo.toNat = 0x80 + 3 * r.val + ch.val)
      ∨ (∃ lo : BitVec 2, i = .wrTbl9x lo data ∧ 0x90 + lo.toNat = 0x80 + 3 * r.val + ch.val)
      ∨ (i = .wrTbl94 data ∧ 0x94 = 0x80 + 3 * r.val + ch.val) →
    ∃ t, exec i s = .next t
      ∧ t.runTable[r][ch] = data
      ∧ memRead t (BitVec.ofNat 8 (0x80 + 3 * r.val + ch.val)) = data
      ∧ (∀ a : BitVec 8, a.toNat ≠ 0x80 + 3 * r.val + ch.val → memRead t a = memRead s a)
      ∧ { t with runTable := s.runTable } = s

/-- Rules R45 and R73: `WR CTRL` replaces the four bits and ignores bits 15:4 without a flag. -/
def Obligations.CtrlWriteReplacesTheFourBits : Prop :=
  ∀ (data : Word) (s : State),
    exec (.wrCtrl data) s = .next { s with ctrl := data.extractLsb' 0 4 }
    ∧ memRead { s with ctrl := data.extractLsb' 0 4 } 0x01 = data &&& 0x000F

/-- Rules R45 and R192: `WR STATUS` clears `HALLFAIL`, `TMRERR` and `BADEV` where bit 0, 1, 7 is 1; every other bit of
`STATUS`, every other address and every other element is unchanged. -/
def Obligations.StatusWriteClearsTheSelectedFlags : Prop :=
  ∀ (data : Word) (s : State), ∃ t, exec (.wrStatus data) s = .next t
    ∧ memRead t 0x02 = memRead s 0x02 &&& ~~~(data &&& 0x0083)
    ∧ (∀ a : BitVec 8, a ≠ 0x02 → memRead t a = memRead s a)
    ∧ { t with flags := s.flags } = s

/-- Rules R45, R169 and R172: a `WR` word of any address and data performs `MemWrite`, the commands included. -/
def Obligations.WriteWordsPerformMemWrite : Prop :=
  ∀ (addr : BitVec 8) (data : Word) (s : State),
    exec (decode (encodeWr addr data)) s = .next (memWrite Config.cfg addr data s)

/-! ## Commands -/

/-- Rules R166 and R171: `NOPEV` and the command `NOP` change no state. -/
def Obligations.EmptyEventsChangeNoState : Prop :=
  ∀ s : State, exec .nopev s = .next s ∧ exec .cmdNop s = .next s
    ∧ decode 0x0000000000000000 = .nopev ∧ decode 0x3000000000000000 = .cmdNop

/-- Rule R173: the command codes 0x0008 to 0xFFFF raise `BADEV`; nothing else changes. -/
def Obligations.ReservedCommandsOnlyRaiseBadev : Prop :=
  ∀ (v : Word) (s : State), 8 ≤ v.toNat →
    decode (encodeWr 0x00 v) = .cmdRsvd v
    ∧ exec (.cmdRsvd v) s = .next { s with flags := { s.flags with badEv := true } }

/-- Rule R150: `ID_START` is refused in FAULT and the unknown states, and else starts a run from an empty map with the
control machine parked. -/
def Obligations.IdStartBeginsAnEmptyRun : Prop :=
  ∀ s : State,
    (s.ctrlState.toNat ≥ 5 → exec .cmdIdStart s = .next { s with flags := { s.flags with badEv := true } })
    ∧ (s.ctrlState.toNat < 5 → ∃ t, exec .cmdIdStart s = .next t
      ∧ (t.ident.active = true ∧ t.ident.vec = 0 ∧ t.ident.icnt = 0 ∧ t.ident.duty = 0 ∧ t.ident.hallNow = 0
        ∧ t.ident.hallLast = 0 ∧ t.ident.failCnt = 0)
      ∧ t.flags = { s.flags with idFail := false, idDone := false }
      ∧ (∀ (r : Fin 7) (ch : Fin 3), t.ident.map[r][ch] = Config.cfg.ovrOff)
      ∧ t.pi2 = { s.pi2 with integ := 0, ref := 0, meas := 0, out := 0, exc := 0 }
      ∧ t.ctrlState = stInit ∧ t.out = { s.out with pwmEn := false }
      ∧ { t with ident := s.ident, flags := s.flags, pi2 := s.pi2, ctrlState := s.ctrlState, out := s.out } = s)

/-- Rule R153: `ID_HANDOVER`. -/
def Obligations.IdHandoverEndsTheRun : Prop :=
  ∀ s : State,
    (s.ident.active = false → exec .cmdIdHandover s = .next { s with flags := { s.flags with badEv := true } })
    ∧ (s.ident.active = true →
      exec .cmdIdHandover s
        = .next { s with ident := { s.ident with active := false }, out := { s.out with pwmEn := false } })

/-- Rules R154 and R155: the two table loads; each replaces all 21 words in one event and nothing else. -/
def Obligations.TableLoadsReplaceTheRunTable : Prop :=
  ∀ s : State,
    (∃ t, exec .cmdTblLoadConst s = .next t
      ∧ (∀ ch : Fin 3, t.runTable[0][ch] = Config.cfg.ovrOff)
      ∧ (∀ (r : Fin 6) (ch : Fin 3), t.runTable[r.val + 1][ch] = Config.cfg.bldcConst[r][ch])
      ∧ { t with runTable := s.runTable } = s)
    ∧ (s.flags.idDone = false → exec .cmdTblLoadId s = .next { s with flags := { s.flags with badEv := true } })
    ∧ (s.flags.idDone = true → exec .cmdTblLoadId s = .next { s with runTable := s.ident.map })

/-- Rule R177: `CTRL_RESET` is refused with `CFGERR` or while the identifier is active; else it writes `CTRL_STATE` and
`PWM_EN` and nothing else, from every control state. -/
def Obligations.CtrlResetReturnsToInit : Prop :=
  ∀ s : State,
    (s.flags.cfgErr = true ∨ s.ident.active = true →
      exec .cmdCtrlReset s = .next { s with flags := { s.flags with badEv := true } })
    ∧ (s.flags.cfgErr = false ∧ s.ident.active = false →
      exec .cmdCtrlReset s = .next { s with ctrlState := stInit, out := { s.out with pwmEn := false } })

/-- Rule R178: `CTRL_FAULT` is always accepted; it also ends an identification run. -/
def Obligations.CtrlFaultIsAlwaysAccepted : Prop :=
  ∀ s : State,
    exec .cmdCtrlFault s
      = .next { s with ctrlState := stFault, out := { s.out with pwmEn := false },
                       ident := { s.ident with active := false } }

/-! ## The timer and the tick -/

/-- Rule R114: the timer advances modulo 2^32 while it runs; nothing else changes. -/
def Obligations.TclkAdvancesTheRunningTimer : Prop :=
  ∀ (n : DWord) (s : State), ∃ t, exec (.tclk n) s = .next t
    ∧ t.hall.tmr.toNat = (if s.hall.tmrRun then (s.hall.tmr.toNat + n.toNat) % 2 ^ 32 else s.hall.tmr.toNat)
    ∧ { t with hall := { t.hall with tmr := s.hall.tmr } } = s

/-- Rule R167: the order of the units inside a tick, in every state. -/
def Obligations.TickRunsTheUnitsInOrder : Prop :=
  ∀ (code : BitVec 3) (ibus pot per : Word) (s : State),
    (s.ident.active = true → exec (.tick code ibus pot per) s
      = .next (idStep Config.cfg code (curStep Config.cfg (speedCalc Config.cfg
          (hallHandler Config.cfg code (latchInputs ibus pot per s))))))
    ∧ (s.ident.active = false → exec (.tick code ibus pot per) s
      = .next (ctrlStep Config.cfg (curStep Config.cfg (speedCalc Config.cfg
          (hallHandler Config.cfg code (latchInputs ibus pot per s))))))

/-- Rule R30: what a tick never writes; the timer it only zeroes. -/
def Obligations.TickLeavesTheSlowContextState : Prop :=
  ∀ (code : BitVec 3) (ibus pot per : Word) (s : State), ∃ t, exec (.tick code ibus pot per) s = .next t
    ∧ t.ctrl = s.ctrl ∧ t.runTable = s.runTable ∧ t.out.rdData = s.out.rdData
    ∧ t.flags.cfgErr = s.flags.cfgErr ∧ t.flags.badEv = s.flags.badEv ∧ t.ident.active = s.ident.active
    ∧ (t.hall.tmr = s.hall.tmr ∨ t.hall.tmr = 0)
    ∧ (t.pi0.kp = s.pi0.kp ∧ t.pi0.ki = s.pi0.ki ∧ t.pi0.kc = s.pi0.kc ∧ t.pi0.outMin = s.pi0.outMin
      ∧ t.pi0.outMax = s.pi0.outMax)
    ∧ (t.pi1.kp = s.pi1.kp ∧ t.pi1.ki = s.pi1.ki ∧ t.pi1.kc = s.pi1.kc ∧ t.pi1.outMin = s.pi1.outMin
      ∧ t.pi1.outMax = s.pi1.outMax)
    ∧ (t.pi2.kp = s.pi2.kp ∧ t.pi2.ki = s.pi2.ki ∧ t.pi2.kc = s.pi2.kc ∧ t.pi2.outMin = s.pi2.outMin
      ∧ t.pi2.outMax = s.pi2.outMax)

/-- Rule R17: a tick latches its fields, a negative `pot` as 0; no other event but `INIT` and `RESET` (to 0) writes a
latch. -/
def Obligations.TickLatchesItsFields : Prop :=
  (∀ (code : BitVec 3) (ibus pot per : Word) (s : State), ∃ t, exec (.tick code ibus pot per) s = .next t
    ∧ t.latch.ibusRaw = ibus ∧ t.latch.ctrlIn.toInt = max pot.toInt 0 ∧ t.latch.pwmPeriod = per)
  ∧ (∀ (i : Instr) (s t : State), exec i s = .next t → (∀ code ibus pot per, i ≠ .tick code ibus pot per) →
    t.latch = (if i = .cmdInit ∨ i = .reset then { ibusRaw := 0, ctrlIn := 0, pwmPeriod := 0 } else s.latch))

/-- Rule R113: the first tick after `RESET` or `INIT` adopts the pins; `PERIOD` is not written. -/
def Obligations.SeedTickAdoptsThePins : Prop :=
  ∀ (code : BitVec 3) (ibus pot per : Word) (s : State), s.hall.hseed = false →
    ∃ t, exec (.tick code ibus pot per) s = .next t
      ∧ t.hall = { cur := code, prev := code
                   sector := if 1 ≤ code.toNat ∧ code.toNat ≤ 6 then code else s.hall.sector
                   chg := false, hseed := true, tmr := 0, tmrRun := true, period := s.hall.period, stopCnt := 0 }
      ∧ t.flags.hallFail = (s.flags.hallFail || decide (code = 0 ∨ code = 7))
      ∧ t.flags.tmrErr = s.flags.tmrErr

/-- Rules R110 to R112: a later tick, with the change flag clear as it is between events (rule R29): an edge takes the
snapshot, a tick without one counts the stop countdown down; an illegal code never becomes the sector. -/
def Obligations.HallTickDetectsEdges : Prop :=
  ∀ (code : BitVec 3) (ibus pot per : Word) (s : State), s.hall.hseed = true → s.hall.chg = false →
    ∃ t, exec (.tick code ibus pot per) s = .next t
      ∧ (code ≠ s.hall.cur →
        t.hall = { cur := code, prev := s.hall.cur
                   sector := if 1 ≤ code.toNat ∧ code.toNat ≤ 6 then code else s.hall.sector
                   chg := false, hseed := true, tmr := 0, tmrRun := true, period := s.hall.tmr
                   stopCnt := Config.cfg.stopTimeout }
        ∧ t.flags.tmrErr = (s.flags.tmrErr || decide (s.hall.tmr = 0)))
      ∧ (code = s.hall.cur →
        t.hall = { s.hall with tmrRun := true, stopCnt := BitVec.ofNat 16 (s.hall.stopCnt.toNat - 1) }
        ∧ t.flags.tmrErr = s.flags.tmrErr)
      ∧ t.flags.hallFail = (s.flags.hallFail || decide (code = 0 ∨ code = 7))

/-- Rules R115 and R117: in range, the filter's two writes are exact and stay in range, and the average never exceeds
the accumulator. -/
def Obligations.SpeedFilterIsExact : Prop :=
  ∀ (c : Config) (s : State), c.maShift ≤ 15 → s.spd.maAvg.toNat = s.spd.maAcc.toNat / 2 ^ c.maShift →
    s.spd.maAcc.toNat ≤ 2 ^ (32 + c.maShift) - 1 →
    s.spd.maAvg.toNat ≤ s.spd.maAcc.toNat
    ∧ (speedCalc c s).spd.maAcc.toNat = s.spd.maAcc.toNat - s.spd.maAvg.toNat + s.hall.period.toNat
    ∧ (speedCalc c s).spd.maAvg.toNat = (speedCalc c s).spd.maAcc.toNat / 2 ^ c.maShift
    ∧ (speedCalc c s).spd.maAcc.toNat ≤ 2 ^ (32 + c.maShift) - 1

/-- Rule R115: the speed after a tick, from the average and the countdown of the same tick; 0 when stopped, held when
the average is 0, saturated at 32767. -/
def Obligations.SpeedAfterATick : Prop :=
  ∀ (code : BitVec 3) (ibus pot per : Word) (s : State), ∃ t, exec (.tick code ibus pot per) s = .next t
    ∧ t.spd.speed.toNat =
      (if t.hall.stopCnt = 0 then 0
       else if t.spd.maAvg = 0 then s.spd.speed.toNat
       else min (Config.cfg.speedMult.toNat / t.spd.maAvg.toNat) 32767)

/-! ## The bus current -/

/-- Rules R125 and R127: from a fresh calibration, `OFFS_DONE` is set by tick 2^`OFFS_SHIFT` and not before, and `OFFSET`
is then the floor of the average of that many samples, whatever else the ticks carry. -/
def Obligations.OffsetIsTheAverageOfTheFirstSamples : Prop :=
  ∀ (c : Config) (xs : List TickInput) (s : State), c.offsShift ≤ 15 →
    s.flags.offsDone = false → s.cur.offsAcc = 0 → s.cur.offsCnt = 0 → xs.length ≤ 2 ^ c.offsShift →
    ((runTicks c xs s).flags.offsDone = true ↔ xs.length = 2 ^ c.offsShift)
    ∧ (runTicks c xs s).cur.offsAcc.toInt = ibusSum xs
    ∧ (xs.length = 2 ^ c.offsShift → (runTicks c xs s).cur.offset.toInt = ibusSum xs / 2 ^ c.offsShift)
    ∧ (xs.length < 2 ^ c.offsShift → (runTicks c xs s).cur.offset = s.cur.offset)

/-- Rule R126: a tick after `OFFS_DONE` calibrates and filters the sample; the offset stays. -/
def Obligations.CalibratedTickFiltersTheSample : Prop :=
  ∀ (code : BitVec 3) (ibus pot per : Word) (s : State), s.flags.offsDone = true →
    ∃ t, exec (.tick code ibus pot per) s = .next t
      ∧ t.cur.ibusCal.toInt = sat16 (ibus.toInt - s.cur.offset.toInt)
      ∧ t.cur.lpfAcc.toInt
        = sat32 (s.cur.lpfAcc.toInt + (t.cur.ibusCal.toInt - s.cur.ibusFilt.toInt) * Config.cfg.lpfGain.toInt)
      ∧ t.cur.ibusFilt.toInt = sat16 (asr t.cur.lpfAcc.toInt 15)
      ∧ t.cur.offset = s.cur.offset ∧ t.cur.offsAcc = s.cur.offsAcc ∧ t.cur.offsCnt = s.cur.offsCnt
      ∧ t.flags.offsDone = true

/-! ## The control machine -/

/-- Rule R141: every change of `CTRL_STATE` and, but for a tick of the identifier, of `PWM_EN`. -/
def Obligations.EveryControlStateChange : Prop :=
  ∀ (i : Instr) (s t : State), exec i s = .next t →
    t.ctrlState = ctrlStateAfter Config.cfg i s
    ∧ ((s.ident.active = false ∨ ∀ code ibus pot per, i ≠ .tick code ibus pot per) →
      t.out.pwmEn = pwmEnAfter i s)

/-- Rule R190: the five entries to FAULT, each with the PWM disabled; no sensor or calibration flag is among them. -/
def Obligations.FaultIsEnteredInFiveWays : Prop :=
  ∀ (i : Instr) (s t : State), exec i s = .next t → s.ctrlState ≠ stFault → t.ctrlState = stFault →
    t.out.pwmEn = false
    ∧ (i = .cmdCtrlFault
      ∨ ((∃ code ibus pot per, i = .tick code ibus pot per) ∧ s.ident.active = false
        ∧ ((s.ctrlState = stLoop ∧ modeField s = 3 ∧ runBit s = true) ∨ s.ctrlState.toNat > 5))
      ∨ ((i = .reset ∨ i = .cmdInit) ∧ cfgCheck Config.cfg = true))

/-- Rules R139 and R191: a tick in FAULT takes no control action and only keeps the PWM disabled; `RUN` does not matter. The
exits are `CTRL_RESET`, `INIT` and `RESET`. -/
def Obligations.FaultIsTerminal : Prop :=
  (∀ (code : BitVec 3) (ibus pot per : Word) (s : State), s.ctrlState = stFault → s.ident.active = false →
    ∃ t, exec (.tick code ibus pot per) s = .next t
      ∧ t.ctrlState = stFault ∧ t.out = { s.out with pwmEn := false } ∧ t.ctx = s.ctx ∧ t.ident = s.ident
      ∧ t.pi0 = s.pi0 ∧ t.pi1 = s.pi1 ∧ t.pi2 = s.pi2)
  ∧ (∀ (i : Instr) (s t : State), exec i s = .next t → s.ctrlState = stFault → t.ctrlState ≠ stFault →
    (i = .cmdCtrlReset ∧ s.flags.cfgErr = false ∧ s.ident.active = false)
      ∨ ((i = .cmdInit ∨ i = .reset) ∧ cfgCheck Config.cfg = false))

/-- Rules R133 to R135: a tick with `RUN` = 0 stops the machine and leaves the rest of the control context; with `RUN` = 1
the INIT arm zeroes the context and the dynamic registers of `PI[0]` and `PI[1]`, and the LOOP arm changes nothing but
the state (and `PWM_EN` for the reserved mode). -/
def Obligations.StopInitAndLoopTicks : Prop :=
  ∀ (code : BitVec 3) (ibus pot per : Word) (s : State), s.ident.active = false → s.ctrlState.toNat < 5 →
    ∃ t, exec (.tick code ibus pot per) s = .next t
      ∧ (runBit s = false →
        t.ctrlState = stInit ∧ t.out = { s.out with pwmEn := false } ∧ t.ctx = s.ctx ∧ t.pi0 = s.pi0 ∧ t.pi1 = s.pi1
        ∧ t.pi2 = s.pi2 ∧ t.ident = s.ident)
      ∧ (runBit s = true → s.ctrlState = stInit →
        t.ctrlState = stLoop ∧ t.out = s.out ∧ t.pi2 = s.pi2 ∧ t.ident = s.ident
        ∧ t.pi0 = { s.pi0 with integ := 0, ref := 0, meas := 0, out := 0, exc := 0 }
        ∧ t.pi1 = { s.pi1 with integ := 0, ref := 0, meas := 0, out := 0, exc := 0 }
        ∧ t.ctx = { inSector := 0, inSpeed := 0, inDir := false, inIbus := 0, commSector := 0, tgtSpeed := 0,
                    tgtCurrent := 0, tgtDuty := 0 })
      ∧ (runBit s = true → s.ctrlState = stLoop →
        t.ctrlState = (if modeField s = 0 then stOpenLoop else if modeField s = 1 then stSpeedLoop
          else if modeField s = 2 then stCurrentLoop else stFault)
        ∧ t.out = (if modeField s = 3 then { s.out with pwmEn := false } else s.out)
        ∧ t.ctx = s.ctx ∧ t.pi0 = s.pi0 ∧ t.pi1 = s.pi1 ∧ t.pi2 = s.pi2 ∧ t.ident = s.ident)

/-- Rules R130 to R132 and R136: an open-loop tick, with the sector and speed of the same tick. The duty is the control
input's fraction of the period; no PI bank is touched. -/
def Obligations.OpenLoopTickDrivesTheDuty : Prop :=
  ∀ (code : BitVec 3) (ibus pot per : Word) (s : State),
    s.ident.active = false → s.ctrlState = stOpenLoop → runBit s = true →
    ∃ t, exec (.tick code ibus pot per) s = .next t
      ∧ (t.ctx.inSector = t.hall.sector ∧ t.ctx.inSpeed = t.spd.speed ∧ t.ctx.inDir = dirBit s
        ∧ t.ctx.commSector.toNat = (if dirBit s then 7 - t.hall.sector.toNat else t.hall.sector.toNat))
      ∧ t.ctx.tgtDuty.toInt = scale15 (max pot.toInt 0) per.toNat
      ∧ (t.out.pwmDuty.toNat : Int) = clamp t.ctx.tgtDuty.toInt Config.cfg.minDuty.toNat Config.cfg.maxDuty.toNat
      ∧ t.out.pwmOvr = overrideRow Config.cfg s.runTable t.ctx.commSector
      ∧ t.out.pwmEn = true ∧ t.ctrlState = stOpenLoop
      ∧ (t.ctx.inIbus = s.ctx.inIbus ∧ t.ctx.tgtSpeed = s.ctx.tgtSpeed ∧ t.ctx.tgtCurrent = s.ctx.tgtCurrent)
      ∧ (t.pi0 = s.pi0 ∧ t.pi1 = s.pi1 ∧ t.pi2 = s.pi2 ∧ t.ident = s.ident)

/-- Rules R130, R132 and R137: a speed-loop tick. A target speed outside int16, which no configuration without a defect gives
(`TargetsStayInTheirRanges`), is the free value of notes/assumptions/2.md. -/
def Obligations.SpeedLoopTickRunsTheSpeedRegulator : Prop :=
  ∀ (code : BitVec 3) (ibus pot per : Word) (s : State),
    s.ident.active = false → s.ctrlState = stSpeedLoop → runBit s = true →
    ∃ t, exec (.tick code ibus pot per) s = .next t
      ∧ (t.ctx.inSector = t.hall.sector ∧ t.ctx.inSpeed = t.spd.speed ∧ t.ctx.inDir = dirBit s
        ∧ t.ctx.commSector.toNat = (if dirBit s then 7 - t.hall.sector.toNat else t.hall.sector.toNat))
      ∧ t.ctx.tgtSpeed = fitSigned .tgtSpeed 16 (Config.cfg.minSpeed.toInt
          + scale15 (Config.cfg.maxSpeed.toInt - Config.cfg.minSpeed.toInt) (max pot.toInt 0))
      ∧ t.pi0 = piUpdate { s.pi0 with ref := t.ctx.tgtSpeed, meas := t.spd.speed }
      ∧ t.ctx.tgtDuty.toInt = scale15 t.pi0.out.toInt per.toNat
      ∧ (t.out.pwmDuty.toNat : Int) = clamp t.ctx.tgtDuty.toInt Config.cfg.minDuty.toNat Config.cfg.maxDuty.toNat
      ∧ t.out.pwmOvr = overrideRow Config.cfg s.runTable t.ctx.commSector
      ∧ t.out.pwmEn = true ∧ t.ctrlState = stSpeedLoop
      ∧ (t.ctx.inIbus = s.ctx.inIbus ∧ t.ctx.tgtCurrent = s.ctx.tgtCurrent)
      ∧ (t.pi1 = s.pi1 ∧ t.pi2 = s.pi2 ∧ t.ident = s.ident)

/-- Rules R130, R132 and R138: a current-loop tick, with the filtered current of the same tick. A target current outside
int16, which no configuration gives, would be the free value of notes/assumptions/2.md. -/
def Obligations.CurrentLoopTickRunsTheCurrentRegulator : Prop :=
  ∀ (code : BitVec 3) (ibus pot per : Word) (s : State),
    s.ident.active = false → s.ctrlState = stCurrentLoop → runBit s = true →
    ∃ t, exec (.tick code ibus pot per) s = .next t
      ∧ (t.ctx.inSector = t.hall.sector ∧ t.ctx.inSpeed = t.spd.speed ∧ t.ctx.inDir = dirBit s
        ∧ t.ctx.commSector.toNat = (if dirBit s then 7 - t.hall.sector.toNat else t.hall.sector.toNat))
      ∧ t.ctx.tgtCurrent = fitSigned .tgtCurrent 16 (scale15 Config.cfg.ratedCurrent.toInt (max pot.toInt 0))
      ∧ t.ctx.inIbus = t.cur.ibusFilt
      ∧ t.pi1 = piUpdate { s.pi1 with ref := t.ctx.tgtCurrent, meas := t.cur.ibusFilt }
      ∧ t.ctx.tgtDuty.toInt = scale15 t.pi1.out.toInt per.toNat
      ∧ (t.out.pwmDuty.toNat : Int) = clamp t.ctx.tgtDuty.toInt Config.cfg.minDuty.toNat Config.cfg.maxDuty.toNat
      ∧ t.out.pwmOvr = overrideRow Config.cfg s.runTable t.ctx.commSector
      ∧ t.out.pwmEn = true ∧ t.ctrlState = stCurrentLoop
      ∧ t.ctx.tgtSpeed = s.ctx.tgtSpeed
      ∧ (t.pi0 = s.pi0 ∧ t.pi2 = s.pi2 ∧ t.ident = s.ident)

/-- Rule R131: the sector-to-override mapper, on all eight sector values. -/
def Obligations.OverrideDispatchMapsTheSector : Prop :=
  ∀ (c : Config) (cs : BitVec 3) (s : State) (ch : Fin 3),
    (∀ r : Fin 7, cs.toNat = r.val → 1 ≤ r.val → (ovrDispatch c cs s).out.pwmOvr[ch] = s.runTable[r][ch])
    ∧ (cs = 0 ∨ cs = 7 → (ovrDispatch c cs s).out.pwmOvr[ch] = c.ovrOff)
    ∧ { ovrDispatch c cs s with out := { (ovrDispatch c cs s).out with pwmOvr := s.out.pwmOvr } } = s

/-- Rule R130: without a configuration defect and with the control input in its range, both targets fit their int16 and
lie in the ranges the rule gives. -/
def Obligations.TargetsStayInTheirRanges : Prop :=
  ∀ (c : Config) (s : State), cfgCheck c = false → 0 ≤ s.latch.ctrlIn.toInt →
    (getInputs c .speedLoop s).ctx.tgtSpeed.toInt = targetSpeed c s.latch.ctrlIn
    ∧ c.minSpeed.toInt ≤ targetSpeed c s.latch.ctrlIn
    ∧ (c.minSpeed.toInt < c.maxSpeed.toInt → targetSpeed c s.latch.ctrlIn < c.maxSpeed.toInt)
    ∧ (c.minSpeed.toInt = c.maxSpeed.toInt → targetSpeed c s.latch.ctrlIn = c.minSpeed.toInt)
    ∧ (getInputs c .currentLoop s).ctx.tgtCurrent.toInt = targetCurrent c s.latch.ctrlIn
    ∧ 0 ≤ targetCurrent c s.latch.ctrlIn ∧ targetCurrent c s.latch.ctrlIn < c.ratedCurrent.toInt

/-! ## The PI controller -/

/-- Rule R102: one update of a bank, on every value of its ten registers. -/
def Obligations.PiUpdateFollowsTheFiveSteps : Prop :=
  ∀ (b : PiBank) (err integ u out : Int),
    err = sat16 (b.ref.toInt - b.meas.toInt) →
    integ = clamp (b.integ.toInt + qmul err b.ki.toInt + qmul b.exc.toInt b.kc.toInt) b.outMin.toInt b.outMax.toInt →
    u = qmul err b.kp.toInt + integ →
    out = clamp u b.outMin.toInt b.outMax.toInt →
    (piUpdate b).integ.toInt = integ ∧ (piUpdate b).out.toInt = out ∧ (piUpdate b).exc.toInt = sat16 (out - u)
    ∧ { piUpdate b with integ := b.integ, out := b.out, exc := b.exc } = b

/-- Rule R103: with bounds that are not inverted, the integrator and the output lie within them and the sign of the
excess says which bound cut the output. -/
def Obligations.PiUpdateStaysWithinItsBounds : Prop :=
  ∀ b : PiBank, b.outMin.toInt ≤ b.outMax.toInt →
    (b.outMin.toInt ≤ (piUpdate b).out.toInt ∧ (piUpdate b).out.toInt ≤ b.outMax.toInt)
    ∧ (b.outMin.toInt ≤ (piUpdate b).integ.toInt ∧ (piUpdate b).integ.toInt ≤ b.outMax.toInt)
    ∧ ((piUpdate b).exc.toInt = 0 ↔ b.outMin.toInt ≤ piUnclamped b ∧ piUnclamped b ≤ b.outMax.toInt)
    ∧ ((piUpdate b).exc.toInt < 0 ↔ piUnclamped b > b.outMax.toInt)
    ∧ ((piUpdate b).exc.toInt > 0 ↔ piUnclamped b < b.outMin.toInt)

/-- 90_conflicts.md C3 and rule R102: with zero error, no stored excess and the integrator in bounds, an update holds the
integrator and outputs it. -/
def Obligations.PiHoldsAtZeroError : Prop :=
  ∀ b : PiBank, b.ref = b.meas → b.exc = 0 → b.outMin.toInt ≤ b.integ.toInt → b.integ.toInt ≤ b.outMax.toInt →
    piUpdate b = { b with out := b.integ }

/-! ## The identifier -/

/-- Rules R151 and R152: one tick of an active identifier at vector `v`: the drive on every tick, the reading on the last
tick of the interval. That both `hallNow` and `hallLast` are left at the reading follows the lines of rule R151 against
rule R187's remark, which is the model's choice (notes/assumptions/11.md, DESIGN CHOICE). -/
def Obligations.IdentifierTickDrivesAndReads : Prop :=
  ∀ (code : BitVec 3) (ibus pot per : Word) (s : State) (v : Fin 6),
    s.ident.active = true → s.ident.vec.toNat = v.val →
    ∃ t, exec (.tick code ibus pot per) s = .next t
      ∧ t.pi2 = piUpdate { s.pi2 with ref := Config.cfg.idIlimit, meas := t.cur.ibusCal }
      ∧ t.ident.duty.toInt = scale15 t.pi2.out.toInt per.toNat
      ∧ (t.out.pwmDuty.toNat : Int) = clamp t.ident.duty.toInt Config.cfg.minDuty.toNat Config.cfg.maxDuty.toNat
      ∧ t.out.pwmOvr = Config.cfg.svTable[v]
      ∧ (if s.ident.icnt.toNat + 1 < Config.cfg.idInterval.toNat then
          t.ident = { s.ident with icnt := s.ident.icnt + 1, duty := t.ident.duty }
          ∧ t.out.pwmEn = true ∧ t.flags.idFail = s.flags.idFail ∧ t.flags.idDone = s.flags.idDone
        else
          (t.ident.icnt = 0 ∧ t.ident.hallNow = code ∧ t.ident.hallLast = code)
          ∧ (∀ (r : Fin 7) (ch : Fin 3), t.ident.map[r][ch]
              = if code.toNat = r.val ∧ 1 ≤ r.val then Config.cfg.idBldc[v][ch] else s.ident.map[r][ch])
          ∧ (if code = 0 ∨ code = 7 ∨ code = s.ident.hallLast then
              t.flags.idFail = true ∧ t.ident.failCnt.toNat = min (s.ident.failCnt.toNat + 1) 7
              ∧ t.ident.vec.toNat = (if Config.cfg.idAbortOnFail then 6 else v.val + 1)
            else
              t.flags.idFail = s.flags.idFail ∧ t.ident.failCnt = s.ident.failCnt ∧ t.ident.vec.toNat = v.val + 1)
          ∧ t.out.pwmEn = decide (t.ident.vec.toNat < 6)
          ∧ t.flags.idDone = (s.flags.idDone || decide (t.ident.vec.toNat = 6)))
      ∧ t.flags.hallFail = (s.flags.hallFail || decide (code = 0 ∨ code = 7))
      ∧ (t.ident.active = true ∧ t.ctrlState = s.ctrlState ∧ t.ctx = s.ctx ∧ t.pi0 = s.pi0 ∧ t.pi1 = s.pi1)

/-- Rule R157: once `ID_VEC` is 6 a tick of the identifier rewrites `ID_DONE` and `PWM_EN` and nothing else of the
identifier, its regulator, the control machine or the outputs. -/
def Obligations.FinishedIdentifierIsFrozen : Prop :=
  ∀ (code : BitVec 3) (ibus pot per : Word) (s : State), s.ident.active = true → s.ident.vec.toNat ≥ 6 →
    ∃ t, exec (.tick code ibus pot per) s = .next t
      ∧ t.flags.idDone = true ∧ t.out = { s.out with pwmEn := false } ∧ t.ident = s.ident ∧ t.pi2 = s.pi2
      ∧ t.flags.idFail = s.flags.idFail
      ∧ t.ctrlState = s.ctrlState ∧ t.ctx = s.ctx ∧ t.pi0 = s.pi0 ∧ t.pi1 = s.pi1

/-- Rule R158, points 1 and 5: without abort, a run takes exactly `6 · ID_INTERVAL` ticks to `ID_DONE`, whatever the
readings, and the PWM is enabled from its first tick until the one that completes. -/
def Obligations.IdentificationTakesSixIntervals : Prop :=
  ∀ (c : Config) (xs : List TickInput) (s : State), c.idAbortOnFail = false → 1 ≤ c.idInterval.toNat →
    s.ident.active = true → s.ident.vec = 0 → s.ident.icnt = 0 → s.flags.idDone = false →
    ((runTicks c xs s).flags.idDone = true ↔ 6 * c.idInterval.toNat ≤ xs.length)
    ∧ (runTicks c xs s).ident.vec.toNat = min 6 (xs.length / c.idInterval.toNat)
    ∧ (xs ≠ [] → ((runTicks c xs s).out.pwmEn = true ↔ xs.length < 6 * c.idInterval.toNat))

/-! ## Flags -/

/-- Rule R192: no flag is cleared but by the events its row names, those events clear it, and pins that still read 0 or 7
set `HALLFAIL` again. -/
def Obligations.FlagsAreSticky : Prop :=
  (∀ (i : Instr) (s t : State), exec i s = .next t → i ≠ .cmdInit → i ≠ .reset →
    (s.flags.hallFail = true → t.flags.hallFail = true ∨ ∃ d : Word, i = .wrStatus d ∧ d.getLsbD 0 = true)
    ∧ (s.flags.tmrErr = true → t.flags.tmrErr = true ∨ ∃ d : Word, i = .wrStatus d ∧ d.getLsbD 1 = true)
    ∧ (s.flags.badEv = true → t.flags.badEv = true ∨ ∃ d : Word, i = .wrStatus d ∧ d.getLsbD 7 = true)
    ∧ (s.flags.idFail = true → t.flags.idFail = true ∨ i = .cmdIdStart)
    ∧ (s.flags.idDone = true → t.flags.idDone = true ∨ i = .cmdIdStart)
    ∧ (s.flags.offsDone = true → t.flags.offsDone = true)
    ∧ t.flags.cfgErr = s.flags.cfgErr)
  ∧ (∀ (d : Word) (s : State), ∃ t, exec (.wrStatus d) s = .next t
    ∧ (d.getLsbD 0 = true → t.flags.hallFail = false) ∧ (d.getLsbD 1 = true → t.flags.tmrErr = false)
    ∧ (d.getLsbD 7 = true → t.flags.badEv = false))
  ∧ (∀ s : State, s.ctrlState.toNat < 5 →
    ∃ t, exec .cmdIdStart s = .next t ∧ t.flags.idFail = false ∧ t.flags.idDone = false)
  ∧ (∀ (i : Instr) (s t : State), i = .cmdInit ∨ i = .reset → exec i s = .next t →
    t.flags = { hallFail := false, tmrErr := false, idFail := false, idDone := false, offsDone := false,
                cfgErr := cfgCheck Config.cfg, badEv := false })
  ∧ (∀ (code : BitVec 3) (ibus pot per : Word) (s : State), code = 0 ∨ code = 7 →
    ∃ t, exec (.tick code ibus pot per) s = .next t ∧ t.flags.hallFail = true)

/-- Rules R15 and R116: the flags that only `RD` reads steer nothing. Two states that differ in no more than those flags
stay so through every event, but for a read of `STATUS` itself. -/
def Obligations.ReportFlagsNeverSteer : Prop :=
  ∀ (i : Instr) (s s' t t' : State), i ≠ .rd 0x02 → withoutReportFlags s = withoutReportFlags s' →
    exec i s = .next t → exec i s' = .next t' → withoutReportFlags t = withoutReportFlags t'

/-! ## Arithmetic -/

/-- Rule R93: on int16 operands `qmul` saturates in exactly one case and is else the floor of the shifted product. -/
def Obligations.QmulSaturatesInExactlyOneCase : Prop :=
  ∀ a b : Word,
    (-1073709056 ≤ a.toInt * b.toInt ∧ a.toInt * b.toInt ≤ 1073741824)
    ∧ (a.toInt = -32768 ∧ b.toInt = -32768 → qmul a.toInt b.toInt = 32767)
    ∧ (¬(a.toInt = -32768 ∧ b.toInt = -32768) → qmul a.toInt b.toInt = asr (a.toInt * b.toInt) 15)
    ∧ qmul a.toInt b.toInt = qmul b.toInt a.toInt

/-- Rules R92, R94 and R96: `asr` is the floor for every sign, `clamp` is total with the upper bound tested first, and
`scale15` of an int16 and a uint16 stays in -65535..65533. -/
def Obligations.ShiftClampAndScale : Prop :=
  (∀ (v : Int) (n : Nat), asr v n * 2 ^ n ≤ v ∧ v < (asr v n + 1) * 2 ^ n)
  ∧ (∀ v lo hi : Int, (lo ≤ hi → lo ≤ clamp v lo hi ∧ clamp v lo hi ≤ hi)
    ∧ (lo ≤ v → v ≤ hi → clamp v lo hi = v) ∧ (lo > hi → clamp v lo hi = if v > hi then hi else lo))
  ∧ (∀ a b : Word, -65535 ≤ scale15 a.toInt b.toNat ∧ scale15 a.toInt b.toNat ≤ 65533)

/-! ## Invariants -/

/-- Rule R29: every step keeps every element in its range. -/
def Obligations.EveryStepKeepsTheRanges : Prop :=
  ∀ s t : State, InRange Config.cfg s → step s = .next t → InRange Config.cfg t

/-- Rule R142: every step keeps the PWM gated. -/
def Obligations.EveryStepKeepsThePwmGated : Prop :=
  ∀ s t : State, PwmGated s → step s = .next t → PwmGated t

/-- Rules R174 and R177: an instance with a defective configuration stays in FAULT with the PWM off, whatever events
come. -/
def Obligations.EveryStepHoldsADefectiveInstance : Prop :=
  ∀ s t : State, DefectHeld Config.cfg s → step s = .next t → DefectHeld Config.cfg t

/-- Rules R23, R100, R128 and 90_conflicts.md C5: every step keeps the bookkeeping. -/
def Obligations.EveryStepKeepsTheBookkeeping : Prop :=
  ∀ s t : State, Bookkeeping Config.cfg s → step s = .next t → Bookkeeping Config.cfg t

/-- The four invariants hold of the state after reset (rule R28). -/
def Obligations.ResetMeetsTheInvariants : Prop :=
  InRange Config.cfg State.reset ∧ PwmGated State.reset ∧ DefectHeld Config.cfg State.reset
    ∧ Bookkeeping Config.cfg State.reset
end

