-- ==== Sys2Proof/Laws/Arith.lean ====
section
/-! SUPPORT. The ranges of the arithmetic primitives and of the narrowing of an integer into an element: what every later
proof about a computed register cites. -/

namespace Sys2Proof.Machine

/-! ## Elements -/

theorem ofInt_zero_bits (w : Nat) : BitVec.ofInt w 0 = 0 := by simp

/-- An int16 holds the integer it was written with. -/
theorem toInt_ofInt16 {v : Int} (h : -32768 ≤ v) (k : v ≤ 32767) : (BitVec.ofInt 16 v).toInt = v := by
  rw [BitVec.toInt_ofInt]
  exact Int.bmod_eq_of_le (by omega) (by omega)

/-- An int32 holds the integer it was written with. -/
theorem toInt_ofInt32 {v : Int} (h : -2147483648 ≤ v) (k : v ≤ 2147483647) : (BitVec.ofInt 32 v).toInt = v := by
  rw [BitVec.toInt_ofInt]
  exact Int.bmod_eq_of_le (by omega) (by omega)

/-- A uint holds the integer it was written with. -/
theorem toNat_ofInt_of_lt {w : Nat} {v : Int} (h : 0 ≤ v) (k : v < 2 ^ w) :
    ((BitVec.ofInt w v).toNat : Int) = v := by
  rw [BitVec.toNat_ofInt, Int.toNat_of_nonneg (Int.emod_nonneg _ (by positivity))]
  exact Int.emod_eq_of_lt h (by exact_mod_cast k)

theorem toInt16_range (x : Word) : -32768 ≤ x.toInt ∧ x.toInt ≤ 32767 := by
  have := @BitVec.le_toInt 16 x; have := @BitVec.toInt_lt 16 x; omega

theorem toInt32_range (x : DWord) : -2147483648 ≤ x.toInt ∧ x.toInt ≤ 2147483647 := by
  have := @BitVec.le_toInt 32 x; have := @BitVec.toInt_lt 32 x; omega

theorem toNat16_range (x : Word) : x.toNat ≤ 65535 := by have := x.isLt; omega

/-! ## The primitives of rules R90 to R96 -/

theorem sat16_range (v : Int) : -32768 ≤ sat16 v ∧ sat16 v ≤ 32767 := by unfold sat16; split <;> [omega; split] <;> omega

theorem sat16_of_range {v : Int} (h : -32768 ≤ v) (k : v ≤ 32767) : sat16 v = v := by
  unfold sat16; split <;> [omega; split] <;> omega

theorem sat32_range (v : Int) : -2147483648 ≤ sat32 v ∧ sat32 v ≤ 2147483647 := by
  unfold sat32; split <;> [omega; split] <;> omega

theorem asr_def (v : Int) (n : Nat) : asr v n = v / 2 ^ n := rfl

/-- The upper bound is tested first; with bounds in order the result lies within them. -/
theorem clamp_range {v lo hi : Int} (h : lo ≤ hi) : lo ≤ clamp v lo hi ∧ clamp v lo hi ≤ hi := by
  unfold clamp; split <;> [omega; split] <;> omega

theorem clamp_of_range {v lo hi : Int} (h : lo ≤ v) (k : v ≤ hi) : clamp v lo hi = v := by
  unfold clamp; split <;> [omega; split] <;> omega

/-- `clamp` is one of its three arguments, so a type that holds the bounds holds the result. -/
theorem clamp_between {v lo hi a b : Int} (h : a ≤ lo) (k : lo ≤ b) (m : a ≤ hi) (n : hi ≤ b) :
    a ≤ clamp v lo hi ∧ clamp v lo hi ≤ b := by
  unfold clamp; split <;> [omega; split] <;> omega

theorem qmul_range (a b : Int) : -32768 ≤ qmul a b ∧ qmul a b ≤ 32767 := sat16_range _

/-- `scale15` of an int16 and a uint16 (rule R96). -/
theorem scale15_range {a b : Int} (ha : -32768 ≤ a) (ha' : a ≤ 32767) (hb : 0 ≤ b) (hb' : b ≤ 65535) :
    -65535 ≤ scale15 a b ∧ scale15 a b ≤ 65533 := by
  have h1 : -32768 * 65535 ≤ a * b := by nlinarith
  have h2 : a * b ≤ 32767 * 65535 := by nlinarith
  unfold scale15 asr; omega

/-- `scale15` of a nonnegative number and a `CTRL_IN` stays below the number (rule R130). -/
theorem scale15_below {a b : Int} (ha : 0 ≤ a) (hb : 0 ≤ b) (hb' : b ≤ 32767) :
    0 ≤ scale15 a b ∧ scale15 a b ≤ a ∧ (0 < a → scale15 a b < a) := by
  have h1 : 0 ≤ a * b := Int.mul_nonneg ha hb
  have h2 : a * b ≤ a * 32767 := Int.mul_le_mul_of_nonneg_left hb' ha
  unfold scale15 asr
  refine ⟨by omega, by omega, fun h => by omega⟩

/-! ## Registers written by a rule -/

theorem fitSigned_toInt16 (e : OpenElement) {v : Int} (h : -32768 ≤ v) (k : v ≤ 32767) :
    (fitSigned e 16 v).toInt = v := by
  rw [fitSigned, if_pos (by norm_num; omega), toInt_ofInt16 h k]

theorem fitSigned_toInt32 (e : OpenElement) {v : Int} (h : -2147483648 ≤ v) (k : v ≤ 2147483647) :
    (fitSigned e 32 v).toInt = v := by
  rw [fitSigned, if_pos (by norm_num; omega), toInt_ofInt32 h k]

theorem fitUnsigned_toNat (e : OpenElement) {w : Nat} {v : Int} (h : 0 ≤ v) (k : v < 2 ^ w) :
    ((fitUnsigned e w v).toNat : Int) = v := by
  rw [fitUnsigned, if_pos ⟨h, k⟩, toNat_ofInt_of_lt h k]

theorem clampDuty_toNat (v : Int) (lo hi : Word) :
    ((BitVec.ofInt 16 (clamp v lo.toNat hi.toNat)).toNat : Int) = clamp v lo.toNat hi.toNat := by
  have := toNat16_range lo; have := toNat16_range hi
  have := @clamp_between v lo.toNat hi.toNat 0 65535 (by omega) (by omega) (by omega) (by omega)
  exact toNat_ofInt_of_lt this.1 (by omega)

/-- `CTRL_IN` is `max(pot, 0)` (rule R167). -/
theorem ctrlInOf_toInt (pot : Word) : (ctrlInOf pot).toInt = max pot.toInt 0 := by
  unfold ctrlInOf; split <;> simp <;> omega

/-! ## The PI controller -/

theorem piIntegral_range (b : PiBank) : -32768 ≤ piIntegral b ∧ piIntegral b ≤ 32767 := by
  have := toInt16_range b.outMin; have := toInt16_range b.outMax
  exact clamp_between (by omega) (by omega) (by omega) (by omega)

theorem piOutput_range (b : PiBank) : -32768 ≤ piOutput b ∧ piOutput b ≤ 32767 := by
  have := toInt16_range b.outMin; have := toInt16_range b.outMax
  exact clamp_between (by omega) (by omega) (by omega) (by omega)

/-- The unclamped output has up to 17 bits (rule R102). -/
theorem piUnclamped_range (b : PiBank) : -65536 ≤ piUnclamped b ∧ piUnclamped b ≤ 65534 := by
  have := qmul_range (piError b) b.kp.toInt; have := piIntegral_range b
  unfold piUnclamped; omega

theorem piUpdate_integ (b : PiBank) : (piUpdate b).integ.toInt = piIntegral b :=
  toInt_ofInt16 (piIntegral_range b).1 (piIntegral_range b).2

theorem piUpdate_out (b : PiBank) : (piUpdate b).out.toInt = piOutput b :=
  toInt_ofInt16 (piOutput_range b).1 (piOutput_range b).2

theorem piUpdate_exc (b : PiBank) : (piUpdate b).exc.toInt = sat16 (piOutput b - piUnclamped b) :=
  toInt_ofInt16 (sat16_range _).1 (sat16_range _).2

@[simp] theorem piUpdate_kp (b : PiBank) : (piUpdate b).kp = b.kp := rfl
@[simp] theorem piUpdate_ki (b : PiBank) : (piUpdate b).ki = b.ki := rfl
@[simp] theorem piUpdate_kc (b : PiBank) : (piUpdate b).kc = b.kc := rfl
@[simp] theorem piUpdate_outMin (b : PiBank) : (piUpdate b).outMin = b.outMin := rfl
@[simp] theorem piUpdate_outMax (b : PiBank) : (piUpdate b).outMax = b.outMax := rfl
@[simp] theorem piUpdate_ref (b : PiBank) : (piUpdate b).ref = b.ref := rfl
@[simp] theorem piUpdate_meas (b : PiBank) : (piUpdate b).meas = b.meas := rfl
@[simp] theorem piClear_kp (b : PiBank) : (piClear b).kp = b.kp := rfl
@[simp] theorem piClear_ki (b : PiBank) : (piClear b).ki = b.ki := rfl
@[simp] theorem piClear_kc (b : PiBank) : (piClear b).kc = b.kc := rfl
@[simp] theorem piClear_outMin (b : PiBank) : (piClear b).outMin = b.outMin := rfl
@[simp] theorem piClear_outMax (b : PiBank) : (piClear b).outMax = b.outMax := rfl
@[simp] theorem piClear_idem (b : PiBank) : piClear (piClear b) = piClear b := rfl
@[simp] theorem piInit_eq (k : PiConfig) (b : PiBank) : piInit k b = PiBank.ofConfig k := rfl
@[simp] theorem piRun_eq (r m : Word) (b : PiBank) : piRun r m b = piUpdate { b with ref := r, meas := m } := rfl

end Sys2Proof.Machine
end

