-- ==== Sys2Proof/Laws/State.lean ====
section
/-! SUPPORT. What each update of the state leaves in each field, true by definition: one lemma per field per update, so that no
proof unfolds a record update. -/

namespace Sys2Proof.Machine

/-- A state is its fields. -/
theorem State.eq_of_fields {s t : State} (h : (t.ctrl, t.ctrlState, t.flags, t.latch, t.ctx, t.out, t.hall)
    = (s.ctrl, s.ctrlState, s.flags, s.latch, s.ctx, s.out, s.hall))
    (k : (t.spd, t.cur, t.ident, t.pi0, t.pi1, t.pi2, t.runTable, t.inbox)
    = (s.spd, s.cur, s.ident, s.pi0, s.pi1, s.pi2, s.runTable, s.inbox)) : t = s := by
  cases s; cases t; simp_all

@[simp] theorem setFlag_hallFail (fl : Flags) : setFlag fl .hallFail = { fl with hallFail := true } := rfl
@[simp] theorem setFlag_tmrErr (fl : Flags) : setFlag fl .tmrErr = { fl with tmrErr := true } := rfl
@[simp] theorem setFlag_idFail (fl : Flags) : setFlag fl .idFail = { fl with idFail := true } := rfl
@[simp] theorem setFlag_idDone (fl : Flags) : setFlag fl .idDone = { fl with idDone := true } := rfl
@[simp] theorem setFlag_offsDone (fl : Flags) : setFlag fl .offsDone = { fl with offsDone := true } := rfl
@[simp] theorem setFlag_cfgErr (fl : Flags) : setFlag fl .cfgErr = { fl with cfgErr := true } := rfl
@[simp] theorem setFlag_badEv (fl : Flags) : setFlag fl .badEv = { fl with badEv := true } := rfl

/-! `raise` -/
@[simp] theorem raise_ctrl (f : Flag) (s : State) : (raise f s).ctrl = s.ctrl := rfl
@[simp] theorem raise_ctrlState (f : Flag) (s : State) : (raise f s).ctrlState = s.ctrlState := rfl
@[simp] theorem raise_latch (f : Flag) (s : State) : (raise f s).latch = s.latch := rfl
@[simp] theorem raise_ctx (f : Flag) (s : State) : (raise f s).ctx = s.ctx := rfl
@[simp] theorem raise_out (f : Flag) (s : State) : (raise f s).out = s.out := rfl
@[simp] theorem raise_hall (f : Flag) (s : State) : (raise f s).hall = s.hall := rfl
@[simp] theorem raise_spd (f : Flag) (s : State) : (raise f s).spd = s.spd := rfl
@[simp] theorem raise_cur (f : Flag) (s : State) : (raise f s).cur = s.cur := rfl
@[simp] theorem raise_ident (f : Flag) (s : State) : (raise f s).ident = s.ident := rfl
@[simp] theorem raise_pi0 (f : Flag) (s : State) : (raise f s).pi0 = s.pi0 := rfl
@[simp] theorem raise_pi1 (f : Flag) (s : State) : (raise f s).pi1 = s.pi1 := rfl
@[simp] theorem raise_pi2 (f : Flag) (s : State) : (raise f s).pi2 = s.pi2 := rfl
@[simp] theorem raise_runTable (f : Flag) (s : State) : (raise f s).runTable = s.runTable := rfl
@[simp] theorem raise_inbox (f : Flag) (s : State) : (raise f s).inbox = s.inbox := rfl
@[simp] theorem raise_flags (f : Flag) (s : State) : (raise f s).flags = setFlag s.flags f := rfl

/-! `enterFault` -/
@[simp] theorem enterFault_ctrl (s : State) : (enterFault s).ctrl = s.ctrl := rfl
@[simp] theorem enterFault_flags (s : State) : (enterFault s).flags = s.flags := rfl
@[simp] theorem enterFault_latch (s : State) : (enterFault s).latch = s.latch := rfl
@[simp] theorem enterFault_ctx (s : State) : (enterFault s).ctx = s.ctx := rfl
@[simp] theorem enterFault_hall (s : State) : (enterFault s).hall = s.hall := rfl
@[simp] theorem enterFault_spd (s : State) : (enterFault s).spd = s.spd := rfl
@[simp] theorem enterFault_cur (s : State) : (enterFault s).cur = s.cur := rfl
@[simp] theorem enterFault_ident (s : State) : (enterFault s).ident = s.ident := rfl
@[simp] theorem enterFault_pi0 (s : State) : (enterFault s).pi0 = s.pi0 := rfl
@[simp] theorem enterFault_pi1 (s : State) : (enterFault s).pi1 = s.pi1 := rfl
@[simp] theorem enterFault_pi2 (s : State) : (enterFault s).pi2 = s.pi2 := rfl
@[simp] theorem enterFault_runTable (s : State) : (enterFault s).runTable = s.runTable := rfl
@[simp] theorem enterFault_inbox (s : State) : (enterFault s).inbox = s.inbox := rfl
@[simp] theorem enterFault_ctrlState (s : State) : (enterFault s).ctrlState = stFault := rfl
@[simp] theorem enterFault_out_pwmOvr (s : State) : (enterFault s).out.pwmOvr = s.out.pwmOvr := rfl
@[simp] theorem enterFault_out_pwmDuty (s : State) : (enterFault s).out.pwmDuty = s.out.pwmDuty := rfl
@[simp] theorem enterFault_out_pwmEn (s : State) : (enterFault s).out.pwmEn = false := rfl
@[simp] theorem enterFault_out_rdData (s : State) : (enterFault s).out.rdData = s.out.rdData := rfl

/-! `parkInInit` -/
@[simp] theorem parkInInit_ctrl (s : State) : (parkInInit s).ctrl = s.ctrl := rfl
@[simp] theorem parkInInit_flags (s : State) : (parkInInit s).flags = s.flags := rfl
@[simp] theorem parkInInit_latch (s : State) : (parkInInit s).latch = s.latch := rfl
@[simp] theorem parkInInit_ctx (s : State) : (parkInInit s).ctx = s.ctx := rfl
@[simp] theorem parkInInit_hall (s : State) : (parkInInit s).hall = s.hall := rfl
@[simp] theorem parkInInit_spd (s : State) : (parkInInit s).spd = s.spd := rfl
@[simp] theorem parkInInit_cur (s : State) : (parkInInit s).cur = s.cur := rfl
@[simp] theorem parkInInit_ident (s : State) : (parkInInit s).ident = s.ident := rfl
@[simp] theorem parkInInit_pi0 (s : State) : (parkInInit s).pi0 = s.pi0 := rfl
@[simp] theorem parkInInit_pi1 (s : State) : (parkInInit s).pi1 = s.pi1 := rfl
@[simp] theorem parkInInit_pi2 (s : State) : (parkInInit s).pi2 = s.pi2 := rfl
@[simp] theorem parkInInit_runTable (s : State) : (parkInInit s).runTable = s.runTable := rfl
@[simp] theorem parkInInit_inbox (s : State) : (parkInInit s).inbox = s.inbox := rfl
@[simp] theorem parkInInit_ctrlState (s : State) : (parkInInit s).ctrlState = stInit := rfl
@[simp] theorem parkInInit_out_pwmOvr (s : State) : (parkInInit s).out.pwmOvr = s.out.pwmOvr := rfl
@[simp] theorem parkInInit_out_pwmDuty (s : State) : (parkInInit s).out.pwmDuty = s.out.pwmDuty := rfl
@[simp] theorem parkInInit_out_pwmEn (s : State) : (parkInInit s).out.pwmEn = false := rfl
@[simp] theorem parkInInit_out_rdData (s : State) : (parkInInit s).out.rdData = s.out.rdData := rfl

/-! `latchInputs` -/
@[simp] theorem latchInputs_ctrl (ibus pot per : Word) (s : State) : (latchInputs ibus pot per s).ctrl = s.ctrl := rfl
@[simp] theorem latchInputs_ctrlState (ibus pot per : Word) (s : State) :
    (latchInputs ibus pot per s).ctrlState = s.ctrlState := rfl
@[simp] theorem latchInputs_flags (ibus pot per : Word) (s : State) :
    (latchInputs ibus pot per s).flags = s.flags := rfl
@[simp] theorem latchInputs_ctx (ibus pot per : Word) (s : State) : (latchInputs ibus pot per s).ctx = s.ctx := rfl
@[simp] theorem latchInputs_out (ibus pot per : Word) (s : State) : (latchInputs ibus pot per s).out = s.out := rfl
@[simp] theorem latchInputs_hall (ibus pot per : Word) (s : State) : (latchInputs ibus pot per s).hall = s.hall := rfl
@[simp] theorem latchInputs_spd (ibus pot per : Word) (s : State) : (latchInputs ibus pot per s).spd = s.spd := rfl
@[simp] theorem latchInputs_cur (ibus pot per : Word) (s : State) : (latchInputs ibus pot per s).cur = s.cur := rfl
@[simp] theorem latchInputs_ident (ibus pot per : Word) (s : State) :
    (latchInputs ibus pot per s).ident = s.ident := rfl
@[simp] theorem latchInputs_pi0 (ibus pot per : Word) (s : State) : (latchInputs ibus pot per s).pi0 = s.pi0 := rfl
@[simp] theorem latchInputs_pi1 (ibus pot per : Word) (s : State) : (latchInputs ibus pot per s).pi1 = s.pi1 := rfl
@[simp] theorem latchInputs_pi2 (ibus pot per : Word) (s : State) : (latchInputs ibus pot per s).pi2 = s.pi2 := rfl
@[simp] theorem latchInputs_runTable (ibus pot per : Word) (s : State) :
    (latchInputs ibus pot per s).runTable = s.runTable := rfl
@[simp] theorem latchInputs_inbox (ibus pot per : Word) (s : State) :
    (latchInputs ibus pot per s).inbox = s.inbox := rfl
@[simp] theorem latchInputs_latch (ibus pot per : Word) (s : State) :
    (latchInputs ibus pot per s).latch = ⟨ibus, ctrlInOf pot, per⟩ := rfl

/-! `presentEvent` -/
@[simp] theorem presentEvent_ctrl (w : EventWord) (s : State) : (presentEvent w s).ctrl = s.ctrl := rfl
@[simp] theorem presentEvent_ctrlState (w : EventWord) (s : State) : (presentEvent w s).ctrlState = s.ctrlState := rfl
@[simp] theorem presentEvent_flags (w : EventWord) (s : State) : (presentEvent w s).flags = s.flags := rfl
@[simp] theorem presentEvent_latch (w : EventWord) (s : State) : (presentEvent w s).latch = s.latch := rfl
@[simp] theorem presentEvent_ctx (w : EventWord) (s : State) : (presentEvent w s).ctx = s.ctx := rfl
@[simp] theorem presentEvent_out (w : EventWord) (s : State) : (presentEvent w s).out = s.out := rfl
@[simp] theorem presentEvent_hall (w : EventWord) (s : State) : (presentEvent w s).hall = s.hall := rfl
@[simp] theorem presentEvent_spd (w : EventWord) (s : State) : (presentEvent w s).spd = s.spd := rfl
@[simp] theorem presentEvent_cur (w : EventWord) (s : State) : (presentEvent w s).cur = s.cur := rfl
@[simp] theorem presentEvent_ident (w : EventWord) (s : State) : (presentEvent w s).ident = s.ident := rfl
@[simp] theorem presentEvent_pi0 (w : EventWord) (s : State) : (presentEvent w s).pi0 = s.pi0 := rfl
@[simp] theorem presentEvent_pi1 (w : EventWord) (s : State) : (presentEvent w s).pi1 = s.pi1 := rfl
@[simp] theorem presentEvent_pi2 (w : EventWord) (s : State) : (presentEvent w s).pi2 = s.pi2 := rfl
@[simp] theorem presentEvent_runTable (w : EventWord) (s : State) : (presentEvent w s).runTable = s.runTable := rfl
@[simp] theorem presentEvent_inbox (w : EventWord) (s : State) : (presentEvent w s).inbox = w :: s.inbox := rfl

/-! `writeCtrl` -/
@[simp] theorem writeCtrl_ctrlState (v : Word) (s : State) : (writeCtrl v s).ctrlState = s.ctrlState := rfl
@[simp] theorem writeCtrl_flags (v : Word) (s : State) : (writeCtrl v s).flags = s.flags := rfl
@[simp] theorem writeCtrl_latch (v : Word) (s : State) : (writeCtrl v s).latch = s.latch := rfl
@[simp] theorem writeCtrl_ctx (v : Word) (s : State) : (writeCtrl v s).ctx = s.ctx := rfl
@[simp] theorem writeCtrl_out (v : Word) (s : State) : (writeCtrl v s).out = s.out := rfl
@[simp] theorem writeCtrl_hall (v : Word) (s : State) : (writeCtrl v s).hall = s.hall := rfl
@[simp] theorem writeCtrl_spd (v : Word) (s : State) : (writeCtrl v s).spd = s.spd := rfl
@[simp] theorem writeCtrl_cur (v : Word) (s : State) : (writeCtrl v s).cur = s.cur := rfl
@[simp] theorem writeCtrl_ident (v : Word) (s : State) : (writeCtrl v s).ident = s.ident := rfl
@[simp] theorem writeCtrl_pi0 (v : Word) (s : State) : (writeCtrl v s).pi0 = s.pi0 := rfl
@[simp] theorem writeCtrl_pi1 (v : Word) (s : State) : (writeCtrl v s).pi1 = s.pi1 := rfl
@[simp] theorem writeCtrl_pi2 (v : Word) (s : State) : (writeCtrl v s).pi2 = s.pi2 := rfl
@[simp] theorem writeCtrl_runTable (v : Word) (s : State) : (writeCtrl v s).runTable = s.runTable := rfl
@[simp] theorem writeCtrl_inbox (v : Word) (s : State) : (writeCtrl v s).inbox = s.inbox := rfl
@[simp] theorem writeCtrl_ctrl (v : Word) (s : State) : (writeCtrl v s).ctrl = v.extractLsb' 0 4 := rfl

/-! `writeStatus` -/
@[simp] theorem writeStatus_ctrl (v : Word) (s : State) : (writeStatus v s).ctrl = s.ctrl := rfl
@[simp] theorem writeStatus_ctrlState (v : Word) (s : State) : (writeStatus v s).ctrlState = s.ctrlState := rfl
@[simp] theorem writeStatus_latch (v : Word) (s : State) : (writeStatus v s).latch = s.latch := rfl
@[simp] theorem writeStatus_ctx (v : Word) (s : State) : (writeStatus v s).ctx = s.ctx := rfl
@[simp] theorem writeStatus_out (v : Word) (s : State) : (writeStatus v s).out = s.out := rfl
@[simp] theorem writeStatus_hall (v : Word) (s : State) : (writeStatus v s).hall = s.hall := rfl
@[simp] theorem writeStatus_spd (v : Word) (s : State) : (writeStatus v s).spd = s.spd := rfl
@[simp] theorem writeStatus_cur (v : Word) (s : State) : (writeStatus v s).cur = s.cur := rfl
@[simp] theorem writeStatus_ident (v : Word) (s : State) : (writeStatus v s).ident = s.ident := rfl
@[simp] theorem writeStatus_pi0 (v : Word) (s : State) : (writeStatus v s).pi0 = s.pi0 := rfl
@[simp] theorem writeStatus_pi1 (v : Word) (s : State) : (writeStatus v s).pi1 = s.pi1 := rfl
@[simp] theorem writeStatus_pi2 (v : Word) (s : State) : (writeStatus v s).pi2 = s.pi2 := rfl
@[simp] theorem writeStatus_runTable (v : Word) (s : State) : (writeStatus v s).runTable = s.runTable := rfl
@[simp] theorem writeStatus_inbox (v : Word) (s : State) : (writeStatus v s).inbox = s.inbox := rfl
@[simp] theorem writeStatus_flags (v : Word) (s : State) : (writeStatus v s).flags = clearFlags v s.flags := rfl

/-! `readToPort` -/
@[simp] theorem readToPort_ctrl (a : BitVec 8) (s : State) : (readToPort a s).ctrl = s.ctrl := rfl
@[simp] theorem readToPort_ctrlState (a : BitVec 8) (s : State) : (readToPort a s).ctrlState = s.ctrlState := rfl
@[simp] theorem readToPort_flags (a : BitVec 8) (s : State) : (readToPort a s).flags = s.flags := rfl
@[simp] theorem readToPort_latch (a : BitVec 8) (s : State) : (readToPort a s).latch = s.latch := rfl
@[simp] theorem readToPort_ctx (a : BitVec 8) (s : State) : (readToPort a s).ctx = s.ctx := rfl
@[simp] theorem readToPort_hall (a : BitVec 8) (s : State) : (readToPort a s).hall = s.hall := rfl
@[simp] theorem readToPort_spd (a : BitVec 8) (s : State) : (readToPort a s).spd = s.spd := rfl
@[simp] theorem readToPort_cur (a : BitVec 8) (s : State) : (readToPort a s).cur = s.cur := rfl
@[simp] theorem readToPort_ident (a : BitVec 8) (s : State) : (readToPort a s).ident = s.ident := rfl
@[simp] theorem readToPort_pi0 (a : BitVec 8) (s : State) : (readToPort a s).pi0 = s.pi0 := rfl
@[simp] theorem readToPort_pi1 (a : BitVec 8) (s : State) : (readToPort a s).pi1 = s.pi1 := rfl
@[simp] theorem readToPort_pi2 (a : BitVec 8) (s : State) : (readToPort a s).pi2 = s.pi2 := rfl
@[simp] theorem readToPort_runTable (a : BitVec 8) (s : State) : (readToPort a s).runTable = s.runTable := rfl
@[simp] theorem readToPort_inbox (a : BitVec 8) (s : State) : (readToPort a s).inbox = s.inbox := rfl
@[simp] theorem readToPort_out_pwmOvr (a : BitVec 8) (s : State) : (readToPort a s).out.pwmOvr = s.out.pwmOvr := rfl
@[simp] theorem readToPort_out_pwmDuty (a : BitVec 8) (s : State) :
    (readToPort a s).out.pwmDuty = s.out.pwmDuty := rfl
@[simp] theorem readToPort_out_pwmEn (a : BitVec 8) (s : State) : (readToPort a s).out.pwmEn = s.out.pwmEn := rfl
@[simp] theorem readToPort_out_rdData (a : BitVec 8) (s : State) : (readToPort a s).out.rdData = memRead s a := rfl

/-! `tblLoadConst` -/
@[simp] theorem tblLoadConst_ctrl (c : Config) (s : State) : (tblLoadConst c s).ctrl = s.ctrl := rfl
@[simp] theorem tblLoadConst_ctrlState (c : Config) (s : State) : (tblLoadConst c s).ctrlState = s.ctrlState := rfl
@[simp] theorem tblLoadConst_flags (c : Config) (s : State) : (tblLoadConst c s).flags = s.flags := rfl
@[simp] theorem tblLoadConst_latch (c : Config) (s : State) : (tblLoadConst c s).latch = s.latch := rfl
@[simp] theorem tblLoadConst_ctx (c : Config) (s : State) : (tblLoadConst c s).ctx = s.ctx := rfl
@[simp] theorem tblLoadConst_out (c : Config) (s : State) : (tblLoadConst c s).out = s.out := rfl
@[simp] theorem tblLoadConst_hall (c : Config) (s : State) : (tblLoadConst c s).hall = s.hall := rfl
@[simp] theorem tblLoadConst_spd (c : Config) (s : State) : (tblLoadConst c s).spd = s.spd := rfl
@[simp] theorem tblLoadConst_cur (c : Config) (s : State) : (tblLoadConst c s).cur = s.cur := rfl
@[simp] theorem tblLoadConst_ident (c : Config) (s : State) : (tblLoadConst c s).ident = s.ident := rfl
@[simp] theorem tblLoadConst_pi0 (c : Config) (s : State) : (tblLoadConst c s).pi0 = s.pi0 := rfl
@[simp] theorem tblLoadConst_pi1 (c : Config) (s : State) : (tblLoadConst c s).pi1 = s.pi1 := rfl
@[simp] theorem tblLoadConst_pi2 (c : Config) (s : State) : (tblLoadConst c s).pi2 = s.pi2 := rfl
@[simp] theorem tblLoadConst_inbox (c : Config) (s : State) : (tblLoadConst c s).inbox = s.inbox := rfl
@[simp] theorem tblLoadConst_runTable (c : Config) (s : State) : (tblLoadConst c s).runTable = constTable c := rfl

/-! `ovrDispatch` -/
@[simp] theorem ovrDispatch_ctrl (c : Config) (cs : BitVec 3) (s : State) : (ovrDispatch c cs s).ctrl = s.ctrl := rfl
@[simp] theorem ovrDispatch_ctrlState (c : Config) (cs : BitVec 3) (s : State) :
    (ovrDispatch c cs s).ctrlState = s.ctrlState := rfl
@[simp] theorem ovrDispatch_flags (c : Config) (cs : BitVec 3) (s : State) :
    (ovrDispatch c cs s).flags = s.flags := rfl
@[simp] theorem ovrDispatch_latch (c : Config) (cs : BitVec 3) (s : State) :
    (ovrDispatch c cs s).latch = s.latch := rfl
@[simp] theorem ovrDispatch_ctx (c : Config) (cs : BitVec 3) (s : State) : (ovrDispatch c cs s).ctx = s.ctx := rfl
@[simp] theorem ovrDispatch_hall (c : Config) (cs : BitVec 3) (s : State) : (ovrDispatch c cs s).hall = s.hall := rfl
@[simp] theorem ovrDispatch_spd (c : Config) (cs : BitVec 3) (s : State) : (ovrDispatch c cs s).spd = s.spd := rfl
@[simp] theorem ovrDispatch_cur (c : Config) (cs : BitVec 3) (s : State) : (ovrDispatch c cs s).cur = s.cur := rfl
@[simp] theorem ovrDispatch_ident (c : Config) (cs : BitVec 3) (s : State) :
    (ovrDispatch c cs s).ident = s.ident := rfl
@[simp] theorem ovrDispatch_pi0 (c : Config) (cs : BitVec 3) (s : State) : (ovrDispatch c cs s).pi0 = s.pi0 := rfl
@[simp] theorem ovrDispatch_pi1 (c : Config) (cs : BitVec 3) (s : State) : (ovrDispatch c cs s).pi1 = s.pi1 := rfl
@[simp] theorem ovrDispatch_pi2 (c : Config) (cs : BitVec 3) (s : State) : (ovrDispatch c cs s).pi2 = s.pi2 := rfl
@[simp] theorem ovrDispatch_runTable (c : Config) (cs : BitVec 3) (s : State) :
    (ovrDispatch c cs s).runTable = s.runTable := rfl
@[simp] theorem ovrDispatch_inbox (c : Config) (cs : BitVec 3) (s : State) :
    (ovrDispatch c cs s).inbox = s.inbox := rfl
@[simp] theorem ovrDispatch_out_pwmOvr (c : Config) (cs : BitVec 3) (s : State) :
    (ovrDispatch c cs s).out.pwmOvr = overrideRow c s.runTable cs := rfl
@[simp] theorem ovrDispatch_out_pwmDuty (c : Config) (cs : BitVec 3) (s : State) :
    (ovrDispatch c cs s).out.pwmDuty = s.out.pwmDuty := rfl
@[simp] theorem ovrDispatch_out_pwmEn (c : Config) (cs : BitVec 3) (s : State) :
    (ovrDispatch c cs s).out.pwmEn = s.out.pwmEn := rfl
@[simp] theorem ovrDispatch_out_rdData (c : Config) (cs : BitVec 3) (s : State) :
    (ovrDispatch c cs s).out.rdData = s.out.rdData := rfl

/-! `dutySet` -/
@[simp] theorem dutySet_ctrl (c : Config) (v : Int) (s : State) : (dutySet c v s).ctrl = s.ctrl := rfl
@[simp] theorem dutySet_ctrlState (c : Config) (v : Int) (s : State) : (dutySet c v s).ctrlState = s.ctrlState := rfl
@[simp] theorem dutySet_flags (c : Config) (v : Int) (s : State) : (dutySet c v s).flags = s.flags := rfl
@[simp] theorem dutySet_latch (c : Config) (v : Int) (s : State) : (dutySet c v s).latch = s.latch := rfl
@[simp] theorem dutySet_ctx (c : Config) (v : Int) (s : State) : (dutySet c v s).ctx = s.ctx := rfl
@[simp] theorem dutySet_hall (c : Config) (v : Int) (s : State) : (dutySet c v s).hall = s.hall := rfl
@[simp] theorem dutySet_spd (c : Config) (v : Int) (s : State) : (dutySet c v s).spd = s.spd := rfl
@[simp] theorem dutySet_cur (c : Config) (v : Int) (s : State) : (dutySet c v s).cur = s.cur := rfl
@[simp] theorem dutySet_ident (c : Config) (v : Int) (s : State) : (dutySet c v s).ident = s.ident := rfl
@[simp] theorem dutySet_pi0 (c : Config) (v : Int) (s : State) : (dutySet c v s).pi0 = s.pi0 := rfl
@[simp] theorem dutySet_pi1 (c : Config) (v : Int) (s : State) : (dutySet c v s).pi1 = s.pi1 := rfl
@[simp] theorem dutySet_pi2 (c : Config) (v : Int) (s : State) : (dutySet c v s).pi2 = s.pi2 := rfl
@[simp] theorem dutySet_runTable (c : Config) (v : Int) (s : State) : (dutySet c v s).runTable = s.runTable := rfl
@[simp] theorem dutySet_inbox (c : Config) (v : Int) (s : State) : (dutySet c v s).inbox = s.inbox := rfl
@[simp] theorem dutySet_out_pwmOvr (c : Config) (v : Int) (s : State) :
    (dutySet c v s).out.pwmOvr = s.out.pwmOvr := rfl
@[simp] theorem dutySet_out_pwmDuty (c : Config) (v : Int) (s : State) :
    (dutySet c v s).out.pwmDuty = BitVec.ofInt 16 (clamp v c.minDuty.toNat c.maxDuty.toNat) := rfl
@[simp] theorem dutySet_out_pwmEn (c : Config) (v : Int) (s : State) : (dutySet c v s).out.pwmEn = s.out.pwmEn := rfl
@[simp] theorem dutySet_out_rdData (c : Config) (v : Int) (s : State) :
    (dutySet c v s).out.rdData = s.out.rdData := rfl

/-! `enablePwm` -/
@[simp] theorem enablePwm_ctrl (s : State) : (enablePwm s).ctrl = s.ctrl := rfl
@[simp] theorem enablePwm_ctrlState (s : State) : (enablePwm s).ctrlState = s.ctrlState := rfl
@[simp] theorem enablePwm_flags (s : State) : (enablePwm s).flags = s.flags := rfl
@[simp] theorem enablePwm_latch (s : State) : (enablePwm s).latch = s.latch := rfl
@[simp] theorem enablePwm_ctx (s : State) : (enablePwm s).ctx = s.ctx := rfl
@[simp] theorem enablePwm_hall (s : State) : (enablePwm s).hall = s.hall := rfl
@[simp] theorem enablePwm_spd (s : State) : (enablePwm s).spd = s.spd := rfl
@[simp] theorem enablePwm_cur (s : State) : (enablePwm s).cur = s.cur := rfl
@[simp] theorem enablePwm_ident (s : State) : (enablePwm s).ident = s.ident := rfl
@[simp] theorem enablePwm_pi0 (s : State) : (enablePwm s).pi0 = s.pi0 := rfl
@[simp] theorem enablePwm_pi1 (s : State) : (enablePwm s).pi1 = s.pi1 := rfl
@[simp] theorem enablePwm_pi2 (s : State) : (enablePwm s).pi2 = s.pi2 := rfl
@[simp] theorem enablePwm_runTable (s : State) : (enablePwm s).runTable = s.runTable := rfl
@[simp] theorem enablePwm_inbox (s : State) : (enablePwm s).inbox = s.inbox := rfl
@[simp] theorem enablePwm_out_pwmOvr (s : State) : (enablePwm s).out.pwmOvr = s.out.pwmOvr := rfl
@[simp] theorem enablePwm_out_pwmDuty (s : State) : (enablePwm s).out.pwmDuty = s.out.pwmDuty := rfl
@[simp] theorem enablePwm_out_pwmEn (s : State) : (enablePwm s).out.pwmEn = true := rfl
@[simp] theorem enablePwm_out_rdData (s : State) : (enablePwm s).out.rdData = s.out.rdData := rfl

/-! `driveDuty` -/
@[simp] theorem driveDuty_ctrl (c : Config) (x : Word) (s : State) :
    (driveDuty c x s).ctrl = s.ctrl := by simp only [driveDuty, dutySet]
@[simp] theorem driveDuty_ctrlState (c : Config) (x : Word) (s : State) :
    (driveDuty c x s).ctrlState = s.ctrlState := by simp only [driveDuty, dutySet]
@[simp] theorem driveDuty_flags (c : Config) (x : Word) (s : State) :
    (driveDuty c x s).flags = s.flags := by simp only [driveDuty, dutySet]
@[simp] theorem driveDuty_latch (c : Config) (x : Word) (s : State) :
    (driveDuty c x s).latch = s.latch := by simp only [driveDuty, dutySet]
@[simp] theorem driveDuty_hall (c : Config) (x : Word) (s : State) :
    (driveDuty c x s).hall = s.hall := by simp only [driveDuty, dutySet]
@[simp] theorem driveDuty_spd (c : Config) (x : Word) (s : State) :
    (driveDuty c x s).spd = s.spd := by simp only [driveDuty, dutySet]
@[simp] theorem driveDuty_cur (c : Config) (x : Word) (s : State) :
    (driveDuty c x s).cur = s.cur := by simp only [driveDuty, dutySet]
@[simp] theorem driveDuty_ident (c : Config) (x : Word) (s : State) :
    (driveDuty c x s).ident = s.ident := by simp only [driveDuty, dutySet]
@[simp] theorem driveDuty_pi0 (c : Config) (x : Word) (s : State) :
    (driveDuty c x s).pi0 = s.pi0 := by simp only [driveDuty, dutySet]
@[simp] theorem driveDuty_pi1 (c : Config) (x : Word) (s : State) :
    (driveDuty c x s).pi1 = s.pi1 := by simp only [driveDuty, dutySet]
@[simp] theorem driveDuty_pi2 (c : Config) (x : Word) (s : State) :
    (driveDuty c x s).pi2 = s.pi2 := by simp only [driveDuty, dutySet]
@[simp] theorem driveDuty_runTable (c : Config) (x : Word) (s : State) :
    (driveDuty c x s).runTable = s.runTable := by simp only [driveDuty, dutySet]
@[simp] theorem driveDuty_inbox (c : Config) (x : Word) (s : State) :
    (driveDuty c x s).inbox = s.inbox := by simp only [driveDuty, dutySet]
@[simp] theorem driveDuty_out_pwmOvr (c : Config) (x : Word) (s : State) :
    (driveDuty c x s).out.pwmOvr = s.out.pwmOvr := by simp only [driveDuty, dutySet]
@[simp] theorem driveDuty_out_pwmEn (c : Config) (x : Word) (s : State) :
    (driveDuty c x s).out.pwmEn = s.out.pwmEn := by simp only [driveDuty, dutySet]
@[simp] theorem driveDuty_out_rdData (c : Config) (x : Word) (s : State) :
    (driveDuty c x s).out.rdData = s.out.rdData := by simp only [driveDuty, dutySet]
@[simp] theorem driveDuty_ctx_inSector (c : Config) (x : Word) (s : State) :
    (driveDuty c x s).ctx.inSector = s.ctx.inSector := by simp only [driveDuty, dutySet]
@[simp] theorem driveDuty_ctx_inSpeed (c : Config) (x : Word) (s : State) :
    (driveDuty c x s).ctx.inSpeed = s.ctx.inSpeed := by simp only [driveDuty, dutySet]
@[simp] theorem driveDuty_ctx_inDir (c : Config) (x : Word) (s : State) :
    (driveDuty c x s).ctx.inDir = s.ctx.inDir := by simp only [driveDuty, dutySet]
@[simp] theorem driveDuty_ctx_inIbus (c : Config) (x : Word) (s : State) :
    (driveDuty c x s).ctx.inIbus = s.ctx.inIbus := by simp only [driveDuty, dutySet]
@[simp] theorem driveDuty_ctx_commSector (c : Config) (x : Word) (s : State) :
    (driveDuty c x s).ctx.commSector = s.ctx.commSector := by simp only [driveDuty, dutySet]
@[simp] theorem driveDuty_ctx_tgtSpeed (c : Config) (x : Word) (s : State) :
    (driveDuty c x s).ctx.tgtSpeed = s.ctx.tgtSpeed := by simp only [driveDuty, dutySet]
@[simp] theorem driveDuty_ctx_tgtCurrent (c : Config) (x : Word) (s : State) :
    (driveDuty c x s).ctx.tgtCurrent = s.ctx.tgtCurrent := by simp only [driveDuty, dutySet]
@[simp] theorem driveDuty_ctx_tgtDuty (c : Config) (x : Word) (s : State) :
    (driveDuty c x s).ctx.tgtDuty = BitVec.ofInt 32 (scale15 x.toInt s.latch.pwmPeriod.toNat) := by simp only [driveDuty, dutySet]

/-! `maStep` -/
@[simp] theorem maStep_ctrl (c : Config) (s : State) : (maStep c s).ctrl = s.ctrl := by simp only [maStep]
@[simp] theorem maStep_ctrlState (c : Config) (s : State) :
    (maStep c s).ctrlState = s.ctrlState := by simp only [maStep]
@[simp] theorem maStep_flags (c : Config) (s : State) : (maStep c s).flags = s.flags := by simp only [maStep]
@[simp] theorem maStep_latch (c : Config) (s : State) : (maStep c s).latch = s.latch := by simp only [maStep]
@[simp] theorem maStep_ctx (c : Config) (s : State) : (maStep c s).ctx = s.ctx := by simp only [maStep]
@[simp] theorem maStep_out (c : Config) (s : State) : (maStep c s).out = s.out := by simp only [maStep]
@[simp] theorem maStep_hall (c : Config) (s : State) : (maStep c s).hall = s.hall := by simp only [maStep]
@[simp] theorem maStep_cur (c : Config) (s : State) : (maStep c s).cur = s.cur := by simp only [maStep]
@[simp] theorem maStep_ident (c : Config) (s : State) : (maStep c s).ident = s.ident := by simp only [maStep]
@[simp] theorem maStep_pi0 (c : Config) (s : State) : (maStep c s).pi0 = s.pi0 := by simp only [maStep]
@[simp] theorem maStep_pi1 (c : Config) (s : State) : (maStep c s).pi1 = s.pi1 := by simp only [maStep]
@[simp] theorem maStep_pi2 (c : Config) (s : State) : (maStep c s).pi2 = s.pi2 := by simp only [maStep]
@[simp] theorem maStep_runTable (c : Config) (s : State) : (maStep c s).runTable = s.runTable := by simp only [maStep]
@[simp] theorem maStep_inbox (c : Config) (s : State) : (maStep c s).inbox = s.inbox := by simp only [maStep]
@[simp] theorem maStep_spd_speed (c : Config) (s : State) :
    (maStep c s).spd.speed = s.spd.speed := by simp only [maStep]

/-! `speedCalc` -/
@[simp] theorem speedCalc_ctrl (c : Config) (s : State) :
    (speedCalc c s).ctrl = s.ctrl := by simp only [speedCalc, maStep]
@[simp] theorem speedCalc_ctrlState (c : Config) (s : State) :
    (speedCalc c s).ctrlState = s.ctrlState := by simp only [speedCalc, maStep]
@[simp] theorem speedCalc_flags (c : Config) (s : State) :
    (speedCalc c s).flags = s.flags := by simp only [speedCalc, maStep]
@[simp] theorem speedCalc_latch (c : Config) (s : State) :
    (speedCalc c s).latch = s.latch := by simp only [speedCalc, maStep]
@[simp] theorem speedCalc_ctx (c : Config) (s : State) :
    (speedCalc c s).ctx = s.ctx := by simp only [speedCalc, maStep]
@[simp] theorem speedCalc_out (c : Config) (s : State) :
    (speedCalc c s).out = s.out := by simp only [speedCalc, maStep]
@[simp] theorem speedCalc_hall (c : Config) (s : State) :
    (speedCalc c s).hall = s.hall := by simp only [speedCalc, maStep]
@[simp] theorem speedCalc_cur (c : Config) (s : State) :
    (speedCalc c s).cur = s.cur := by simp only [speedCalc, maStep]
@[simp] theorem speedCalc_ident (c : Config) (s : State) :
    (speedCalc c s).ident = s.ident := by simp only [speedCalc, maStep]
@[simp] theorem speedCalc_pi0 (c : Config) (s : State) :
    (speedCalc c s).pi0 = s.pi0 := by simp only [speedCalc, maStep]
@[simp] theorem speedCalc_pi1 (c : Config) (s : State) :
    (speedCalc c s).pi1 = s.pi1 := by simp only [speedCalc, maStep]
@[simp] theorem speedCalc_pi2 (c : Config) (s : State) :
    (speedCalc c s).pi2 = s.pi2 := by simp only [speedCalc, maStep]
@[simp] theorem speedCalc_runTable (c : Config) (s : State) :
    (speedCalc c s).runTable = s.runTable := by simp only [speedCalc, maStep]
@[simp] theorem speedCalc_inbox (c : Config) (s : State) :
    (speedCalc c s).inbox = s.inbox := by simp only [speedCalc, maStep]

/-! `curSample` -/
@[simp] theorem curSample_ctrl (c : Config) (s : State) : (curSample c s).ctrl = s.ctrl := by simp only [curSample]
@[simp] theorem curSample_ctrlState (c : Config) (s : State) :
    (curSample c s).ctrlState = s.ctrlState := by simp only [curSample]
@[simp] theorem curSample_flags (c : Config) (s : State) : (curSample c s).flags = s.flags := by simp only [curSample]
@[simp] theorem curSample_latch (c : Config) (s : State) : (curSample c s).latch = s.latch := by simp only [curSample]
@[simp] theorem curSample_ctx (c : Config) (s : State) : (curSample c s).ctx = s.ctx := by simp only [curSample]
@[simp] theorem curSample_out (c : Config) (s : State) : (curSample c s).out = s.out := by simp only [curSample]
@[simp] theorem curSample_hall (c : Config) (s : State) : (curSample c s).hall = s.hall := by simp only [curSample]
@[simp] theorem curSample_spd (c : Config) (s : State) : (curSample c s).spd = s.spd := by simp only [curSample]
@[simp] theorem curSample_ident (c : Config) (s : State) : (curSample c s).ident = s.ident := by simp only [curSample]
@[simp] theorem curSample_pi0 (c : Config) (s : State) : (curSample c s).pi0 = s.pi0 := by simp only [curSample]
@[simp] theorem curSample_pi1 (c : Config) (s : State) : (curSample c s).pi1 = s.pi1 := by simp only [curSample]
@[simp] theorem curSample_pi2 (c : Config) (s : State) : (curSample c s).pi2 = s.pi2 := by simp only [curSample]
@[simp] theorem curSample_runTable (c : Config) (s : State) :
    (curSample c s).runTable = s.runTable := by simp only [curSample]
@[simp] theorem curSample_inbox (c : Config) (s : State) : (curSample c s).inbox = s.inbox := by simp only [curSample]
@[simp] theorem curSample_cur_offsAcc (c : Config) (s : State) :
    (curSample c s).cur.offsAcc = s.cur.offsAcc := by simp only [curSample]
@[simp] theorem curSample_cur_offsCnt (c : Config) (s : State) :
    (curSample c s).cur.offsCnt = s.cur.offsCnt := by simp only [curSample]
@[simp] theorem curSample_cur_offset (c : Config) (s : State) :
    (curSample c s).cur.offset = s.cur.offset := by simp only [curSample]

/-! `armInit` -/
@[simp] theorem armInit_ctrl (s : State) : (armInit s).ctrl = s.ctrl := rfl
@[simp] theorem armInit_flags (s : State) : (armInit s).flags = s.flags := rfl
@[simp] theorem armInit_latch (s : State) : (armInit s).latch = s.latch := rfl
@[simp] theorem armInit_out (s : State) : (armInit s).out = s.out := rfl
@[simp] theorem armInit_hall (s : State) : (armInit s).hall = s.hall := rfl
@[simp] theorem armInit_spd (s : State) : (armInit s).spd = s.spd := rfl
@[simp] theorem armInit_cur (s : State) : (armInit s).cur = s.cur := rfl
@[simp] theorem armInit_ident (s : State) : (armInit s).ident = s.ident := rfl
@[simp] theorem armInit_pi2 (s : State) : (armInit s).pi2 = s.pi2 := rfl
@[simp] theorem armInit_runTable (s : State) : (armInit s).runTable = s.runTable := rfl
@[simp] theorem armInit_inbox (s : State) : (armInit s).inbox = s.inbox := rfl
@[simp] theorem armInit_pi0 (s : State) : (armInit s).pi0 = piClear s.pi0 := rfl
@[simp] theorem armInit_pi1 (s : State) : (armInit s).pi1 = piClear s.pi1 := rfl
@[simp] theorem armInit_ctrlState (s : State) : (armInit s).ctrlState = stLoop := rfl
@[simp] theorem armInit_ctx (s : State) : (armInit s).ctx = ⟨0, 0, false, 0, 0, 0, 0, 0⟩ := rfl

/-! `armFault` -/
@[simp] theorem armFault_ctrl (s : State) : (armFault s).ctrl = s.ctrl := rfl
@[simp] theorem armFault_ctrlState (s : State) : (armFault s).ctrlState = s.ctrlState := rfl
@[simp] theorem armFault_flags (s : State) : (armFault s).flags = s.flags := rfl
@[simp] theorem armFault_latch (s : State) : (armFault s).latch = s.latch := rfl
@[simp] theorem armFault_ctx (s : State) : (armFault s).ctx = s.ctx := rfl
@[simp] theorem armFault_hall (s : State) : (armFault s).hall = s.hall := rfl
@[simp] theorem armFault_spd (s : State) : (armFault s).spd = s.spd := rfl
@[simp] theorem armFault_cur (s : State) : (armFault s).cur = s.cur := rfl
@[simp] theorem armFault_ident (s : State) : (armFault s).ident = s.ident := rfl
@[simp] theorem armFault_pi0 (s : State) : (armFault s).pi0 = s.pi0 := rfl
@[simp] theorem armFault_pi1 (s : State) : (armFault s).pi1 = s.pi1 := rfl
@[simp] theorem armFault_pi2 (s : State) : (armFault s).pi2 = s.pi2 := rfl
@[simp] theorem armFault_runTable (s : State) : (armFault s).runTable = s.runTable := rfl
@[simp] theorem armFault_inbox (s : State) : (armFault s).inbox = s.inbox := rfl
@[simp] theorem armFault_out_pwmOvr (s : State) : (armFault s).out.pwmOvr = s.out.pwmOvr := rfl
@[simp] theorem armFault_out_pwmDuty (s : State) : (armFault s).out.pwmDuty = s.out.pwmDuty := rfl
@[simp] theorem armFault_out_pwmEn (s : State) : (armFault s).out.pwmEn = false := rfl
@[simp] theorem armFault_out_rdData (s : State) : (armFault s).out.rdData = s.out.rdData := rfl

/-! `idDrive` -/
@[simp] theorem idDrive_ctrl (c : Config) (v : Fin 6) (s : State) :
    (idDrive c v s).ctrl = s.ctrl := by simp only [idDrive, dutySet]
@[simp] theorem idDrive_ctrlState (c : Config) (v : Fin 6) (s : State) :
    (idDrive c v s).ctrlState = s.ctrlState := by simp only [idDrive, dutySet]
@[simp] theorem idDrive_flags (c : Config) (v : Fin 6) (s : State) :
    (idDrive c v s).flags = s.flags := by simp only [idDrive, dutySet]
@[simp] theorem idDrive_latch (c : Config) (v : Fin 6) (s : State) :
    (idDrive c v s).latch = s.latch := by simp only [idDrive, dutySet]
@[simp] theorem idDrive_ctx (c : Config) (v : Fin 6) (s : State) :
    (idDrive c v s).ctx = s.ctx := by simp only [idDrive, dutySet]
@[simp] theorem idDrive_hall (c : Config) (v : Fin 6) (s : State) :
    (idDrive c v s).hall = s.hall := by simp only [idDrive, dutySet]
@[simp] theorem idDrive_spd (c : Config) (v : Fin 6) (s : State) :
    (idDrive c v s).spd = s.spd := by simp only [idDrive, dutySet]
@[simp] theorem idDrive_cur (c : Config) (v : Fin 6) (s : State) :
    (idDrive c v s).cur = s.cur := by simp only [idDrive, dutySet]
@[simp] theorem idDrive_pi0 (c : Config) (v : Fin 6) (s : State) :
    (idDrive c v s).pi0 = s.pi0 := by simp only [idDrive, dutySet]
@[simp] theorem idDrive_pi1 (c : Config) (v : Fin 6) (s : State) :
    (idDrive c v s).pi1 = s.pi1 := by simp only [idDrive, dutySet]
@[simp] theorem idDrive_runTable (c : Config) (v : Fin 6) (s : State) :
    (idDrive c v s).runTable = s.runTable := by simp only [idDrive, dutySet]
@[simp] theorem idDrive_inbox (c : Config) (v : Fin 6) (s : State) :
    (idDrive c v s).inbox = s.inbox := by simp only [idDrive, dutySet]
@[simp] theorem idDrive_pi2 (c : Config) (v : Fin 6) (s : State) :
    (idDrive c v s).pi2 = piRun c.idIlimit s.cur.ibusCal s.pi2 := by simp only [idDrive, dutySet]
@[simp] theorem idDrive_ident_active (c : Config) (v : Fin 6) (s : State) :
    (idDrive c v s).ident.active = s.ident.active := by simp only [idDrive, dutySet]
@[simp] theorem idDrive_ident_vec (c : Config) (v : Fin 6) (s : State) :
    (idDrive c v s).ident.vec = s.ident.vec := by simp only [idDrive, dutySet]
@[simp] theorem idDrive_ident_icnt (c : Config) (v : Fin 6) (s : State) :
    (idDrive c v s).ident.icnt = s.ident.icnt := by simp only [idDrive, dutySet]
@[simp] theorem idDrive_ident_hallNow (c : Config) (v : Fin 6) (s : State) :
    (idDrive c v s).ident.hallNow = s.ident.hallNow := by simp only [idDrive, dutySet]
@[simp] theorem idDrive_ident_hallLast (c : Config) (v : Fin 6) (s : State) :
    (idDrive c v s).ident.hallLast = s.ident.hallLast := by simp only [idDrive, dutySet]
@[simp] theorem idDrive_ident_failCnt (c : Config) (v : Fin 6) (s : State) :
    (idDrive c v s).ident.failCnt = s.ident.failCnt := by simp only [idDrive, dutySet]
@[simp] theorem idDrive_ident_map (c : Config) (v : Fin 6) (s : State) :
    (idDrive c v s).ident.map = s.ident.map := by simp only [idDrive, dutySet]
@[simp] theorem idDrive_out_pwmOvr (c : Config) (v : Fin 6) (s : State) :
    (idDrive c v s).out.pwmOvr = c.svTable[v] := by simp only [idDrive, dutySet]
@[simp] theorem idDrive_out_pwmEn (c : Config) (v : Fin 6) (s : State) :
    (idDrive c v s).out.pwmEn = true := by simp only [idDrive, dutySet]
@[simp] theorem idDrive_out_rdData (c : Config) (v : Fin 6) (s : State) :
    (idDrive c v s).out.rdData = s.out.rdData := by simp only [idDrive, dutySet]

/-! `idComplete` -/
@[simp] theorem idComplete_ctrl (s : State) : (idComplete s).ctrl = s.ctrl := rfl
@[simp] theorem idComplete_ctrlState (s : State) : (idComplete s).ctrlState = s.ctrlState := rfl
@[simp] theorem idComplete_latch (s : State) : (idComplete s).latch = s.latch := rfl
@[simp] theorem idComplete_ctx (s : State) : (idComplete s).ctx = s.ctx := rfl
@[simp] theorem idComplete_hall (s : State) : (idComplete s).hall = s.hall := rfl
@[simp] theorem idComplete_spd (s : State) : (idComplete s).spd = s.spd := rfl
@[simp] theorem idComplete_cur (s : State) : (idComplete s).cur = s.cur := rfl
@[simp] theorem idComplete_ident (s : State) : (idComplete s).ident = s.ident := rfl
@[simp] theorem idComplete_pi0 (s : State) : (idComplete s).pi0 = s.pi0 := rfl
@[simp] theorem idComplete_pi1 (s : State) : (idComplete s).pi1 = s.pi1 := rfl
@[simp] theorem idComplete_pi2 (s : State) : (idComplete s).pi2 = s.pi2 := rfl
@[simp] theorem idComplete_runTable (s : State) : (idComplete s).runTable = s.runTable := rfl
@[simp] theorem idComplete_inbox (s : State) : (idComplete s).inbox = s.inbox := rfl
@[simp] theorem idComplete_flags (s : State) : (idComplete s).flags = setFlag s.flags .idDone := rfl
@[simp] theorem idComplete_out_pwmOvr (s : State) : (idComplete s).out.pwmOvr = s.out.pwmOvr := rfl
@[simp] theorem idComplete_out_pwmDuty (s : State) : (idComplete s).out.pwmDuty = s.out.pwmDuty := rfl
@[simp] theorem idComplete_out_pwmEn (s : State) : (idComplete s).out.pwmEn = false := rfl
@[simp] theorem idComplete_out_rdData (s : State) : (idComplete s).out.rdData = s.out.rdData := rfl

/-! `ctrlFault` -/
@[simp] theorem ctrlFault_ctrl (s : State) : (ctrlFault s).ctrl = s.ctrl := rfl
@[simp] theorem ctrlFault_flags (s : State) : (ctrlFault s).flags = s.flags := rfl
@[simp] theorem ctrlFault_latch (s : State) : (ctrlFault s).latch = s.latch := rfl
@[simp] theorem ctrlFault_ctx (s : State) : (ctrlFault s).ctx = s.ctx := rfl
@[simp] theorem ctrlFault_hall (s : State) : (ctrlFault s).hall = s.hall := rfl
@[simp] theorem ctrlFault_spd (s : State) : (ctrlFault s).spd = s.spd := rfl
@[simp] theorem ctrlFault_cur (s : State) : (ctrlFault s).cur = s.cur := rfl
@[simp] theorem ctrlFault_pi0 (s : State) : (ctrlFault s).pi0 = s.pi0 := rfl
@[simp] theorem ctrlFault_pi1 (s : State) : (ctrlFault s).pi1 = s.pi1 := rfl
@[simp] theorem ctrlFault_pi2 (s : State) : (ctrlFault s).pi2 = s.pi2 := rfl
@[simp] theorem ctrlFault_runTable (s : State) : (ctrlFault s).runTable = s.runTable := rfl
@[simp] theorem ctrlFault_inbox (s : State) : (ctrlFault s).inbox = s.inbox := rfl
@[simp] theorem ctrlFault_ctrlState (s : State) : (ctrlFault s).ctrlState = stFault := rfl
@[simp] theorem ctrlFault_out_pwmOvr (s : State) : (ctrlFault s).out.pwmOvr = s.out.pwmOvr := rfl
@[simp] theorem ctrlFault_out_pwmDuty (s : State) : (ctrlFault s).out.pwmDuty = s.out.pwmDuty := rfl
@[simp] theorem ctrlFault_out_pwmEn (s : State) : (ctrlFault s).out.pwmEn = false := rfl
@[simp] theorem ctrlFault_out_rdData (s : State) : (ctrlFault s).out.rdData = s.out.rdData := rfl
@[simp] theorem ctrlFault_ident_active (s : State) : (ctrlFault s).ident.active = false := rfl
@[simp] theorem ctrlFault_ident_vec (s : State) : (ctrlFault s).ident.vec = s.ident.vec := rfl
@[simp] theorem ctrlFault_ident_icnt (s : State) : (ctrlFault s).ident.icnt = s.ident.icnt := rfl
@[simp] theorem ctrlFault_ident_duty (s : State) : (ctrlFault s).ident.duty = s.ident.duty := rfl
@[simp] theorem ctrlFault_ident_hallNow (s : State) : (ctrlFault s).ident.hallNow = s.ident.hallNow := rfl
@[simp] theorem ctrlFault_ident_hallLast (s : State) : (ctrlFault s).ident.hallLast = s.ident.hallLast := rfl
@[simp] theorem ctrlFault_ident_failCnt (s : State) : (ctrlFault s).ident.failCnt = s.ident.failCnt := rfl
@[simp] theorem ctrlFault_ident_map (s : State) : (ctrlFault s).ident.map = s.ident.map := rfl

end Sys2Proof.Machine
end

