-- ==== Sys2Proof/Laws/HallSpeed.lean ====
section
/-! SUPPORT. What the hall handler, the timer, the speed filter and the bus-current unit can do: one lemma that says all of
it, and what each leaves alone. -/

namespace Sys2Proof.Machine

/-- An illegal hall code. -/
def illegalCode (code : BitVec 3) : Bool := decide (code = 0 ∨ code = 7)

theorem illegalCode_iff (code : BitVec 3) : illegalCode code = true ↔ ¬ ValidCode code := by
  revert code; decide

/-- All `HALL_READ` does. -/
theorem hallRead_eq (code : BitVec 3) (s : State) :
    hallRead code s = { s with flags := { s.flags with hallFail := s.flags.hallFail || illegalCode code } } := by
  unfold hallRead illegalCode
  split <;> simp_all [raise, setFlag]

/-- All the seed tick does (rule R113). -/
theorem hallHandler_seed (c : Config) (code : BitVec 3) (s : State) (h : s.hall.hseed = false) :
    hallHandler c code s = { s with
      hall := { cur := code, prev := code, sector := if ValidCode code then code else s.hall.sector,
                chg := false, hseed := true, tmr := 0, tmrRun := true, period := s.hall.period, stopCnt := 0 }
      flags := { s.flags with hallFail := s.flags.hallFail || illegalCode code } } := by
  unfold hallHandler
  rw [if_pos h, hallSeed, hallRead_eq]

/-- All step (c) of the handler does. -/
theorem hallEdge_eq (c : Config) (s : State) :
    hallEdge c s = { s with
      hall := { s.hall with
        period := s.hall.tmr, tmr := 0, stopCnt := c.stopTimeout, chg := false
        sector := if ValidCode s.hall.cur then s.hall.cur else s.hall.sector }
      flags := { s.flags with
        hallFail := s.flags.hallFail || illegalCode s.hall.cur
        tmrErr := s.flags.tmrErr || decide (s.hall.tmr = 0) } } := by
  unfold hallEdge
  by_cases t : s.hall.tmr = 0 <;> by_cases v : ValidCode s.hall.cur
  · have hv : illegalCode s.hall.cur = false := by rw [Bool.eq_false_iff, ne_eq, illegalCode_iff]; exact fun h => h v
    simp only [t, if_true, if_pos v, hv, raise, setFlag, decide_true, Bool.or_true, Bool.or_false]
  · have hv := (illegalCode_iff _).2 v
    simp only [t, if_true, if_neg v, hv, raise, setFlag, decide_true, Bool.or_true]
  · have hv : illegalCode s.hall.cur = false := by rw [Bool.eq_false_iff, ne_eq, illegalCode_iff]; exact fun h => h v
    simp only [t, if_false, if_pos v, hv, decide_false, Bool.or_false]
  · have hv := (illegalCode_iff _).2 v
    simp only [t, if_false, if_neg v, hv, raise, setFlag, decide_false, Bool.or_false, Bool.or_true]

/-- All a tick with an edge does (rule R112, steps (a) to (c)). -/
theorem hallHandler_edge (c : Config) (code : BitVec 3) (s : State) (h : s.hall.hseed = true)
    (k : s.hall.chg = false) (e : code ≠ s.hall.cur) :
    hallHandler c code s = { s with
      hall := { cur := code, prev := s.hall.cur, sector := if ValidCode code then code else s.hall.sector,
                chg := false, hseed := true, tmr := 0, tmrRun := true, period := s.hall.tmr,
                stopCnt := c.stopTimeout }
      flags := { s.flags with
        hallFail := s.flags.hallFail || illegalCode code
        tmrErr := s.flags.tmrErr || decide (s.hall.tmr = 0) } } := by
  unfold hallHandler hallUpd
  simp [h, k, e, hallRead_eq, hallEdge_eq]

/-- All a tick without an edge does (rule R112, steps (a) and (d)). -/
theorem hallHandler_noEdge (c : Config) (s : State) (h : s.hall.hseed = true) (k : s.hall.chg = false) :
    hallHandler c s.hall.cur s = { s with
      hall := { s.hall with
        tmrRun := true, stopCnt := if s.hall.stopCnt.toNat > 0 then s.hall.stopCnt - 1 else s.hall.stopCnt }
      flags := { s.flags with hallFail := s.flags.hallFail || illegalCode s.hall.cur } } := by
  unfold hallHandler hallUpd hallNoEdge
  simp only [h, hallRead_eq, ne_eq, not_true_eq_false, k, reduceCtorEq, if_false, Bool.false_eq_true]
  split <;> simp_all

/-- All a tick does from a state with `CHG` = 1, which no run reaches (rule R29). -/
theorem hallHandler_chg (c : Config) (code : BitVec 3) (s : State) (h : s.hall.hseed = true) (k : s.hall.chg = true) :
    hallHandler c code s =
      if code = s.hall.cur then hallEdge c (hallRead code { s with hall.tmrRun := true })
      else hallNoEdge { hallRead code s with
        hall := { s.hall with tmrRun := true, prev := s.hall.cur, cur := code, chg := false } } := by
  unfold hallHandler hallUpd
  by_cases e : code = s.hall.cur <;> simp [h, k, e, hallRead_eq]

/-- The handler writes the hall record and the two sensor flags, and nothing else, in every state; `CHG` is 0 at its end and
the timer is kept or zeroed; a flag is never cleared. -/
theorem hallHandler_frame (c : Config) (code : BitVec 3) (s : State) : ∃ h f t,
    hallHandler c code s = { s with hall := h, flags := { s.flags with hallFail := f, tmrErr := t } }
    ∧ h.chg = false ∧ h.hseed = true ∧ h.tmrRun = true ∧ (h.tmr = s.hall.tmr ∨ h.tmr = 0)
    ∧ (s.flags.hallFail || illegalCode code) = f ∧ (s.flags.tmrErr = true → t = true)
    ∧ (h.sector = s.hall.sector ∨ h.sector = code ∧ ValidCode code) := by
  cases h : s.hall.hseed
  · rw [hallHandler_seed c code s h]
    refine ⟨_, _, s.flags.tmrErr, rfl, rfl, rfl, rfl, .inr rfl, rfl, id, ?_⟩
    by_cases v : ValidCode code
    · exact .inr ⟨if_pos v, v⟩
    · exact .inl (if_neg v)
  · cases k : s.hall.chg
    · by_cases e : code = s.hall.cur
      · subst e
        rw [hallHandler_noEdge c s h k]
        exact ⟨_, _, s.flags.tmrErr, rfl, k, h, rfl, .inl rfl, rfl, id, .inl rfl⟩
      · rw [hallHandler_edge c code s h k e]
        refine ⟨_, _, _, rfl, rfl, rfl, rfl, .inr rfl, rfl, by simp_all, ?_⟩
        by_cases v : ValidCode code
        · exact .inr ⟨if_pos v, v⟩
        · exact .inl (if_neg v)
    · rw [hallHandler_chg c code s h k]
      split
      · subst code
        rw [hallRead_eq, hallEdge_eq]
        refine ⟨_, _, _, rfl, rfl, h, rfl, .inr rfl, by simp, by simp_all, ?_⟩
        by_cases v : ValidCode s.hall.cur
        · exact .inr ⟨if_pos v, v⟩
        · exact .inl (if_neg v)
      · rw [hallRead_eq, hallNoEdge]
        split <;> exact ⟨_, _, s.flags.tmrErr, rfl, rfl, h, rfl, .inl rfl, rfl, id, .inl rfl⟩

/-! ## Fields -/

@[simp] theorem hallHandler_ctrl (c : Config) (code : BitVec 3) (s : State) :
    (hallHandler c code s).ctrl = s.ctrl := by obtain ⟨_, _, _, h, -⟩ := hallHandler_frame c code s; rw [h]
@[simp] theorem hallHandler_ctrlState (c : Config) (code : BitVec 3) (s : State) :
    (hallHandler c code s).ctrlState = s.ctrlState := by obtain ⟨_, _, _, h, -⟩ := hallHandler_frame c code s; rw [h]
@[simp] theorem hallHandler_latch (c : Config) (code : BitVec 3) (s : State) :
    (hallHandler c code s).latch = s.latch := by obtain ⟨_, _, _, h, -⟩ := hallHandler_frame c code s; rw [h]
@[simp] theorem hallHandler_ctx (c : Config) (code : BitVec 3) (s : State) :
    (hallHandler c code s).ctx = s.ctx := by obtain ⟨_, _, _, h, -⟩ := hallHandler_frame c code s; rw [h]
@[simp] theorem hallHandler_out (c : Config) (code : BitVec 3) (s : State) :
    (hallHandler c code s).out = s.out := by obtain ⟨_, _, _, h, -⟩ := hallHandler_frame c code s; rw [h]
@[simp] theorem hallHandler_spd (c : Config) (code : BitVec 3) (s : State) :
    (hallHandler c code s).spd = s.spd := by obtain ⟨_, _, _, h, -⟩ := hallHandler_frame c code s; rw [h]
@[simp] theorem hallHandler_cur (c : Config) (code : BitVec 3) (s : State) :
    (hallHandler c code s).cur = s.cur := by obtain ⟨_, _, _, h, -⟩ := hallHandler_frame c code s; rw [h]
@[simp] theorem hallHandler_ident (c : Config) (code : BitVec 3) (s : State) :
    (hallHandler c code s).ident = s.ident := by obtain ⟨_, _, _, h, -⟩ := hallHandler_frame c code s; rw [h]
@[simp] theorem hallHandler_pi0 (c : Config) (code : BitVec 3) (s : State) :
    (hallHandler c code s).pi0 = s.pi0 := by obtain ⟨_, _, _, h, -⟩ := hallHandler_frame c code s; rw [h]
@[simp] theorem hallHandler_pi1 (c : Config) (code : BitVec 3) (s : State) :
    (hallHandler c code s).pi1 = s.pi1 := by obtain ⟨_, _, _, h, -⟩ := hallHandler_frame c code s; rw [h]
@[simp] theorem hallHandler_pi2 (c : Config) (code : BitVec 3) (s : State) :
    (hallHandler c code s).pi2 = s.pi2 := by obtain ⟨_, _, _, h, -⟩ := hallHandler_frame c code s; rw [h]
@[simp] theorem hallHandler_runTable (c : Config) (code : BitVec 3) (s : State) :
    (hallHandler c code s).runTable = s.runTable := by obtain ⟨_, _, _, h, -⟩ := hallHandler_frame c code s; rw [h]
@[simp] theorem hallHandler_inbox (c : Config) (code : BitVec 3) (s : State) :
    (hallHandler c code s).inbox = s.inbox := by obtain ⟨_, _, _, h, -⟩ := hallHandler_frame c code s; rw [h]
@[simp] theorem hallHandler_flags_idFail (c : Config) (code : BitVec 3) (s : State) :
    (hallHandler c code s).flags.idFail = s.flags.idFail := by
  obtain ⟨_, _, _, h, -⟩ := hallHandler_frame c code s; rw [h]
@[simp] theorem hallHandler_flags_idDone (c : Config) (code : BitVec 3) (s : State) :
    (hallHandler c code s).flags.idDone = s.flags.idDone := by
  obtain ⟨_, _, _, h, -⟩ := hallHandler_frame c code s; rw [h]
@[simp] theorem hallHandler_flags_offsDone (c : Config) (code : BitVec 3) (s : State) :
    (hallHandler c code s).flags.offsDone = s.flags.offsDone := by
  obtain ⟨_, _, _, h, -⟩ := hallHandler_frame c code s; rw [h]
@[simp] theorem hallHandler_flags_cfgErr (c : Config) (code : BitVec 3) (s : State) :
    (hallHandler c code s).flags.cfgErr = s.flags.cfgErr := by
  obtain ⟨_, _, _, h, -⟩ := hallHandler_frame c code s; rw [h]
@[simp] theorem hallHandler_flags_badEv (c : Config) (code : BitVec 3) (s : State) :
    (hallHandler c code s).flags.badEv = s.flags.badEv := by
  obtain ⟨_, _, _, h, -⟩ := hallHandler_frame c code s; rw [h]
@[simp] theorem hallHandler_flags_hallFail (c : Config) (code : BitVec 3) (s : State) :
    (hallHandler c code s).flags.hallFail = (s.flags.hallFail || illegalCode code) := by
  obtain ⟨_, _, _, h, _, _, _, _, k, -⟩ := hallHandler_frame c code s; rw [h, k]
@[simp] theorem hallHandler_hall_chg (c : Config) (code : BitVec 3) (s : State) :
    (hallHandler c code s).hall.chg = false := by obtain ⟨_, _, _, h, k, -⟩ := hallHandler_frame c code s; rw [h, k]

/-- The handler keeps the timer or zeroes it. -/
theorem hallHandler_hall_tmr (c : Config) (code : BitVec 3) (s : State) :
    (hallHandler c code s).hall.tmr = s.hall.tmr ∨ (hallHandler c code s).hall.tmr = 0 := by
  obtain ⟨_, _, _, h, _, _, _, k, -⟩ := hallHandler_frame c code s; rw [h]; exact k

/-- The handler clears no flag. -/
theorem hallHandler_flags_tmrErr (c : Config) (code : BitVec 3) (s : State) (t : s.flags.tmrErr = true) :
    (hallHandler c code s).flags.tmrErr = true := by
  obtain ⟨_, _, _, h, _, _, _, _, _, k, -⟩ := hallHandler_frame c code s; rw [h]; exact k t

/-- An illegal code never becomes the sector. -/
theorem hallHandler_hall_sector (c : Config) (code : BitVec 3) (s : State) :
    (hallHandler c code s).hall.sector = s.hall.sector
      ∨ (hallHandler c code s).hall.sector = code ∧ ValidCode code := by
  obtain ⟨_, _, _, h, _, _, _, _, _, _, k⟩ := hallHandler_frame c code s; rw [h]; exact k

/-- One sample of the offset calibration (rule R125). -/
theorem curStep_uncalibrated (c : Config) (s : State) (h : s.flags.offsDone = false) : curStep c s = curOffs c s := by
  simp [curStep, h]

/-- One filtered sample (rule R126). -/
theorem curStep_calibrated (c : Config) (s : State) (h : s.flags.offsDone = true) : curStep c s = curSample c s := by
  simp [curStep, h]

/-- All `CUR_OFFS` does, with the sum and the count it writes first. -/
theorem curOffs_eq (c : Config) (s : State) :
    curOffs c s =
      let acc := fitSigned .offsAcc 32 (s.cur.offsAcc.toInt + s.latch.ibusRaw.toInt)
      let cnt := fitUnsigned .offsCnt 16 (s.cur.offsCnt.toNat + 1)
      let last := decide (cnt.toNat = offsSamples c)
      { s with
        cur := { s.cur with
          offsAcc := acc, offsCnt := cnt
          offset := if last then BitVec.ofInt 16 (sat16 (asr acc.toInt c.offsShift)) else s.cur.offset }
        flags := { s.flags with offsDone := s.flags.offsDone || last } } := by
  unfold curOffs
  by_cases h : (fitUnsigned .offsCnt 16 (s.cur.offsCnt.toNat + 1)).toNat = offsSamples c <;>
    simp [h, raise, setFlag]

/-- The bus-current unit writes its own elements and `OFFS_DONE`, which it never clears. -/
theorem curStep_frame (c : Config) (s : State) : ∃ u o,
    curStep c s = { s with cur := u, flags := { s.flags with offsDone := o } } ∧ (s.flags.offsDone = true → o = true) := by
  cases h : s.flags.offsDone
  · rw [curStep_uncalibrated c s h, curOffs_eq]
    exact ⟨_, _, rfl, by simp⟩
  · rw [curStep_calibrated c s h]
    exact ⟨(curSample c s).cur, s.flags.offsDone, rfl, fun _ => h⟩

@[simp] theorem curStep_ctrl (c : Config) (s : State) :
    (curStep c s).ctrl = s.ctrl := by obtain ⟨_, _, h, -⟩ := curStep_frame c s; rw [h]
@[simp] theorem curStep_ctrlState (c : Config) (s : State) :
    (curStep c s).ctrlState = s.ctrlState := by obtain ⟨_, _, h, -⟩ := curStep_frame c s; rw [h]
@[simp] theorem curStep_latch (c : Config) (s : State) :
    (curStep c s).latch = s.latch := by obtain ⟨_, _, h, -⟩ := curStep_frame c s; rw [h]
@[simp] theorem curStep_ctx (c : Config) (s : State) :
    (curStep c s).ctx = s.ctx := by obtain ⟨_, _, h, -⟩ := curStep_frame c s; rw [h]
@[simp] theorem curStep_out (c : Config) (s : State) :
    (curStep c s).out = s.out := by obtain ⟨_, _, h, -⟩ := curStep_frame c s; rw [h]
@[simp] theorem curStep_hall (c : Config) (s : State) :
    (curStep c s).hall = s.hall := by obtain ⟨_, _, h, -⟩ := curStep_frame c s; rw [h]
@[simp] theorem curStep_spd (c : Config) (s : State) :
    (curStep c s).spd = s.spd := by obtain ⟨_, _, h, -⟩ := curStep_frame c s; rw [h]
@[simp] theorem curStep_ident (c : Config) (s : State) :
    (curStep c s).ident = s.ident := by obtain ⟨_, _, h, -⟩ := curStep_frame c s; rw [h]
@[simp] theorem curStep_pi0 (c : Config) (s : State) :
    (curStep c s).pi0 = s.pi0 := by obtain ⟨_, _, h, -⟩ := curStep_frame c s; rw [h]
@[simp] theorem curStep_pi1 (c : Config) (s : State) :
    (curStep c s).pi1 = s.pi1 := by obtain ⟨_, _, h, -⟩ := curStep_frame c s; rw [h]
@[simp] theorem curStep_pi2 (c : Config) (s : State) :
    (curStep c s).pi2 = s.pi2 := by obtain ⟨_, _, h, -⟩ := curStep_frame c s; rw [h]
@[simp] theorem curStep_runTable (c : Config) (s : State) :
    (curStep c s).runTable = s.runTable := by obtain ⟨_, _, h, -⟩ := curStep_frame c s; rw [h]
@[simp] theorem curStep_inbox (c : Config) (s : State) :
    (curStep c s).inbox = s.inbox := by obtain ⟨_, _, h, -⟩ := curStep_frame c s; rw [h]
@[simp] theorem curStep_flags_hallFail (c : Config) (s : State) :
    (curStep c s).flags.hallFail = s.flags.hallFail := by obtain ⟨_, _, h, -⟩ := curStep_frame c s; rw [h]
@[simp] theorem curStep_flags_tmrErr (c : Config) (s : State) :
    (curStep c s).flags.tmrErr = s.flags.tmrErr := by obtain ⟨_, _, h, -⟩ := curStep_frame c s; rw [h]
@[simp] theorem curStep_flags_idFail (c : Config) (s : State) :
    (curStep c s).flags.idFail = s.flags.idFail := by obtain ⟨_, _, h, -⟩ := curStep_frame c s; rw [h]
@[simp] theorem curStep_flags_idDone (c : Config) (s : State) :
    (curStep c s).flags.idDone = s.flags.idDone := by obtain ⟨_, _, h, -⟩ := curStep_frame c s; rw [h]
@[simp] theorem curStep_flags_cfgErr (c : Config) (s : State) :
    (curStep c s).flags.cfgErr = s.flags.cfgErr := by obtain ⟨_, _, h, -⟩ := curStep_frame c s; rw [h]
@[simp] theorem curStep_flags_badEv (c : Config) (s : State) :
    (curStep c s).flags.badEv = s.flags.badEv := by obtain ⟨_, _, h, -⟩ := curStep_frame c s; rw [h]

theorem curStep_flags_offsDone (c : Config) (s : State) (h : s.flags.offsDone = true) :
    (curStep c s).flags.offsDone = true := by
  obtain ⟨_, _, e, k⟩ := curStep_frame c s; rw [e]; exact k h

/-! ## The front of a tick -/

@[simp] theorem tickFront_ctrl (c : Config) (code : BitVec 3) (ibus pot per : Word) (s : State) :
    (tickFront c code ibus pot per s).ctrl = s.ctrl := by simp [tickFront]
@[simp] theorem tickFront_ctrlState (c : Config) (code : BitVec 3) (ibus pot per : Word) (s : State) :
    (tickFront c code ibus pot per s).ctrlState = s.ctrlState := by simp [tickFront]
@[simp] theorem tickFront_ctx (c : Config) (code : BitVec 3) (ibus pot per : Word) (s : State) :
    (tickFront c code ibus pot per s).ctx = s.ctx := by simp [tickFront]
@[simp] theorem tickFront_out (c : Config) (code : BitVec 3) (ibus pot per : Word) (s : State) :
    (tickFront c code ibus pot per s).out = s.out := by simp [tickFront]
@[simp] theorem tickFront_ident (c : Config) (code : BitVec 3) (ibus pot per : Word) (s : State) :
    (tickFront c code ibus pot per s).ident = s.ident := by simp [tickFront]
@[simp] theorem tickFront_pi0 (c : Config) (code : BitVec 3) (ibus pot per : Word) (s : State) :
    (tickFront c code ibus pot per s).pi0 = s.pi0 := by simp [tickFront]
@[simp] theorem tickFront_pi1 (c : Config) (code : BitVec 3) (ibus pot per : Word) (s : State) :
    (tickFront c code ibus pot per s).pi1 = s.pi1 := by simp [tickFront]
@[simp] theorem tickFront_pi2 (c : Config) (code : BitVec 3) (ibus pot per : Word) (s : State) :
    (tickFront c code ibus pot per s).pi2 = s.pi2 := by simp [tickFront]
@[simp] theorem tickFront_runTable (c : Config) (code : BitVec 3) (ibus pot per : Word) (s : State) :
    (tickFront c code ibus pot per s).runTable = s.runTable := by simp [tickFront]
@[simp] theorem tickFront_inbox (c : Config) (code : BitVec 3) (ibus pot per : Word) (s : State) :
    (tickFront c code ibus pot per s).inbox = s.inbox := by simp [tickFront]
@[simp] theorem tickFront_latch (c : Config) (code : BitVec 3) (ibus pot per : Word) (s : State) :
    (tickFront c code ibus pot per s).latch = ⟨ibus, ctrlInOf pot, per⟩ := by simp [tickFront]
@[simp] theorem tickFront_flags_idFail (c : Config) (code : BitVec 3) (ibus pot per : Word) (s : State) :
    (tickFront c code ibus pot per s).flags.idFail = s.flags.idFail := by simp [tickFront, latchInputs]
@[simp] theorem tickFront_flags_idDone (c : Config) (code : BitVec 3) (ibus pot per : Word) (s : State) :
    (tickFront c code ibus pot per s).flags.idDone = s.flags.idDone := by simp [tickFront, latchInputs]
@[simp] theorem tickFront_flags_cfgErr (c : Config) (code : BitVec 3) (ibus pot per : Word) (s : State) :
    (tickFront c code ibus pot per s).flags.cfgErr = s.flags.cfgErr := by simp [tickFront, latchInputs]
@[simp] theorem tickFront_flags_badEv (c : Config) (code : BitVec 3) (ibus pot per : Word) (s : State) :
    (tickFront c code ibus pot per s).flags.badEv = s.flags.badEv := by simp [tickFront, latchInputs]
@[simp] theorem tickFront_flags_hallFail (c : Config) (code : BitVec 3) (ibus pot per : Word) (s : State) :
    (tickFront c code ibus pot per s).flags.hallFail = (s.flags.hallFail || illegalCode code) := by simp [tickFront]

/-- The hall record after the front of a tick is the handler's. -/
theorem tickFront_hall (c : Config) (code : BitVec 3) (ibus pot per : Word) (s : State) :
    (tickFront c code ibus pot per s).hall = (hallHandler c code (latchInputs ibus pot per s)).hall := by
  simp [tickFront]

/-- The speed filter of a tick runs on the handler's record. -/
theorem tickFront_spd (c : Config) (code : BitVec 3) (ibus pot per : Word) (s : State) :
    (tickFront c code ibus pot per s).spd
      = (speedCalc c (hallHandler c code (latchInputs ibus pot per s))).spd := by
  simp [tickFront]

theorem tickFront_flags_tmrErr (c : Config) (code : BitVec 3) (ibus pot per : Word) (s : State) :
    (tickFront c code ibus pot per s).flags.tmrErr
      = (hallHandler c code (latchInputs ibus pot per s)).flags.tmrErr := by
  simp [tickFront]

end Sys2Proof.Machine
end

