-- ==== Sys2Proof/Laws/Control.lean ====
section
/-! SUPPORT. What the six-step state machine and its micro-operations can do: the cases of the step, what each arm writes, and
what the step leaves alone. -/

namespace Sys2Proof.Machine

/-- The row of a valid sector (rule R131). -/
theorem overrideRow_valid (c : Config) (t : SectorTable) (cs : BitVec 3) (h : ValidCode cs) :
    overrideRow c t cs = t[cs.toNat]'(by have := h.2; omega) := dif_pos h

/-- The row of sector 0 or 7 (rule R131). -/
theorem overrideRow_illegal (c : Config) (t : SectorTable) (cs : BitVec 3) (h : ¬ ValidCode cs) :
    overrideRow c t cs = offRow c := dif_neg h

/-! `getInputs` -/

@[simp] theorem getInputs_ctrl (c : Config) (l : Loop) (s : State) :
    (getInputs c l s).ctrl = s.ctrl := by cases l <;> rfl
@[simp] theorem getInputs_ctrlState (c : Config) (l : Loop) (s : State) :
    (getInputs c l s).ctrlState = s.ctrlState := by cases l <;> rfl
@[simp] theorem getInputs_flags (c : Config) (l : Loop) (s : State) :
    (getInputs c l s).flags = s.flags := by cases l <;> rfl
@[simp] theorem getInputs_latch (c : Config) (l : Loop) (s : State) :
    (getInputs c l s).latch = s.latch := by cases l <;> rfl
@[simp] theorem getInputs_out (c : Config) (l : Loop) (s : State) :
    (getInputs c l s).out = s.out := by cases l <;> rfl
@[simp] theorem getInputs_hall (c : Config) (l : Loop) (s : State) :
    (getInputs c l s).hall = s.hall := by cases l <;> rfl
@[simp] theorem getInputs_spd (c : Config) (l : Loop) (s : State) :
    (getInputs c l s).spd = s.spd := by cases l <;> rfl
@[simp] theorem getInputs_cur (c : Config) (l : Loop) (s : State) :
    (getInputs c l s).cur = s.cur := by cases l <;> rfl
@[simp] theorem getInputs_ident (c : Config) (l : Loop) (s : State) :
    (getInputs c l s).ident = s.ident := by cases l <;> rfl
@[simp] theorem getInputs_pi0 (c : Config) (l : Loop) (s : State) :
    (getInputs c l s).pi0 = s.pi0 := by cases l <;> rfl
@[simp] theorem getInputs_pi1 (c : Config) (l : Loop) (s : State) :
    (getInputs c l s).pi1 = s.pi1 := by cases l <;> rfl
@[simp] theorem getInputs_pi2 (c : Config) (l : Loop) (s : State) :
    (getInputs c l s).pi2 = s.pi2 := by cases l <;> rfl
@[simp] theorem getInputs_runTable (c : Config) (l : Loop) (s : State) :
    (getInputs c l s).runTable = s.runTable := by cases l <;> rfl
@[simp] theorem getInputs_inbox (c : Config) (l : Loop) (s : State) :
    (getInputs c l s).inbox = s.inbox := by cases l <;> rfl
@[simp] theorem getInputs_ctx_inSector (c : Config) (l : Loop) (s : State) :
    (getInputs c l s).ctx.inSector = s.hall.sector := by cases l <;> rfl
@[simp] theorem getInputs_ctx_inSpeed (c : Config) (l : Loop) (s : State) :
    (getInputs c l s).ctx.inSpeed = s.spd.speed := by cases l <;> rfl
@[simp] theorem getInputs_ctx_inDir (c : Config) (l : Loop) (s : State) :
    (getInputs c l s).ctx.inDir = dirBit s := by cases l <;> rfl
@[simp] theorem getInputs_ctx_commSector (c : Config) (l : Loop) (s : State) :
    (getInputs c l s).ctx.commSector = commSectorOf (dirBit s) s.hall.sector := by cases l <;> rfl
@[simp] theorem getInputs_ctx_tgtDuty (c : Config) (l : Loop) (s : State) :
    (getInputs c l s).ctx.tgtDuty = s.ctx.tgtDuty := by cases l <;> rfl
@[simp] theorem getInputs_openLoop_ctx_inIbus (c : Config) (s : State) :
    (getInputs c .openLoop s).ctx.inIbus = s.ctx.inIbus := rfl
@[simp] theorem getInputs_openLoop_ctx_tgtSpeed (c : Config) (s : State) :
    (getInputs c .openLoop s).ctx.tgtSpeed = s.ctx.tgtSpeed := rfl
@[simp] theorem getInputs_openLoop_ctx_tgtCurrent (c : Config) (s : State) :
    (getInputs c .openLoop s).ctx.tgtCurrent = s.ctx.tgtCurrent := rfl
@[simp] theorem getInputs_speedLoop_ctx_inIbus (c : Config) (s : State) :
    (getInputs c .speedLoop s).ctx.inIbus = s.ctx.inIbus := rfl
@[simp] theorem getInputs_speedLoop_ctx_tgtSpeed (c : Config) (s : State) :
    (getInputs c .speedLoop s).ctx.tgtSpeed = fitSigned .tgtSpeed 16 (targetSpeed c s.latch.ctrlIn) := rfl
@[simp] theorem getInputs_speedLoop_ctx_tgtCurrent (c : Config) (s : State) :
    (getInputs c .speedLoop s).ctx.tgtCurrent = s.ctx.tgtCurrent := rfl
@[simp] theorem getInputs_currentLoop_ctx_inIbus (c : Config) (s : State) :
    (getInputs c .currentLoop s).ctx.inIbus = s.cur.ibusFilt := rfl
@[simp] theorem getInputs_currentLoop_ctx_tgtSpeed (c : Config) (s : State) :
    (getInputs c .currentLoop s).ctx.tgtSpeed = s.ctx.tgtSpeed := rfl
@[simp] theorem getInputs_currentLoop_ctx_tgtCurrent (c : Config) (s : State) :
    (getInputs c .currentLoop s).ctx.tgtCurrent = fitSigned .tgtCurrent 16 (targetCurrent c s.latch.ctrlIn) := rfl

/-- `TGT_DUTY` after the shared duty lines (rules R96 and R132). -/
theorem driveDuty_ctx_tgtDuty_toInt (c : Config) (x : Word) (s : State) :
    (driveDuty c x s).ctx.tgtDuty.toInt = scale15 x.toInt s.latch.pwmPeriod.toNat := by
  have := toInt16_range x; have := toNat16_range s.latch.pwmPeriod
  have := scale15_range (a := x.toInt) (b := s.latch.pwmPeriod.toNat) (by omega) (by omega) (by omega) (by omega)
  rw [driveDuty_ctx_tgtDuty, toInt_ofInt32 (by omega) (by omega)]

/-- The duty register after them. -/
theorem driveDuty_out_pwmDuty_toNat (c : Config) (x : Word) (s : State) :
    ((driveDuty c x s).out.pwmDuty.toNat : Int)
      = clamp (driveDuty c x s).ctx.tgtDuty.toInt c.minDuty.toNat c.maxDuty.toNat := by
  simp only [driveDuty, dutySet_out_pwmDuty, dutySet_ctx]
  exact clampDuty_toNat ..

/-- All the LOOP arm does (rule R135). -/
theorem armLoop_eq (s : State) : armLoop s = { s with
    ctrlState := if modeField s = 0 then stOpenLoop else if modeField s = 1 then stSpeedLoop
      else if modeField s = 2 then stCurrentLoop else stFault
    out := { s.out with pwmEn := if modeField s = 3 then false else s.out.pwmEn } } := by
  unfold armLoop
  by_cases h0 : modeField s = 0
  · simp [h0]
  · by_cases h1 : modeField s = 1
    · simp [h1]
    · by_cases h2 : modeField s = 2
      · simp [h2]
      · have : ∀ m : BitVec 2, m ≠ 0 → m ≠ 1 → m ≠ 2 → m = 3 := by decide
        simp [this _ h0 h1 h2, enterFault]


/-! `armOpenLoop` -/

@[simp] theorem armOpenLoop_ctrl (c : Config) (s : State) : (armOpenLoop c s).ctrl = s.ctrl := by simp [armOpenLoop]
@[simp] theorem armOpenLoop_ctrlState (c : Config) (s : State) :
    (armOpenLoop c s).ctrlState = s.ctrlState := by simp [armOpenLoop]
@[simp] theorem armOpenLoop_flags (c : Config) (s : State) :
    (armOpenLoop c s).flags = s.flags := by simp [armOpenLoop]
@[simp] theorem armOpenLoop_latch (c : Config) (s : State) :
    (armOpenLoop c s).latch = s.latch := by simp [armOpenLoop]
@[simp] theorem armOpenLoop_hall (c : Config) (s : State) : (armOpenLoop c s).hall = s.hall := by simp [armOpenLoop]
@[simp] theorem armOpenLoop_spd (c : Config) (s : State) : (armOpenLoop c s).spd = s.spd := by simp [armOpenLoop]
@[simp] theorem armOpenLoop_cur (c : Config) (s : State) : (armOpenLoop c s).cur = s.cur := by simp [armOpenLoop]
@[simp] theorem armOpenLoop_ident (c : Config) (s : State) :
    (armOpenLoop c s).ident = s.ident := by simp [armOpenLoop]
@[simp] theorem armOpenLoop_pi0 (c : Config) (s : State) : (armOpenLoop c s).pi0 = s.pi0 := by simp [armOpenLoop]
@[simp] theorem armOpenLoop_pi1 (c : Config) (s : State) : (armOpenLoop c s).pi1 = s.pi1 := by simp [armOpenLoop]
@[simp] theorem armOpenLoop_pi2 (c : Config) (s : State) : (armOpenLoop c s).pi2 = s.pi2 := by simp [armOpenLoop]
@[simp] theorem armOpenLoop_runTable (c : Config) (s : State) :
    (armOpenLoop c s).runTable = s.runTable := by simp [armOpenLoop]
@[simp] theorem armOpenLoop_inbox (c : Config) (s : State) :
    (armOpenLoop c s).inbox = s.inbox := by simp [armOpenLoop]
@[simp] theorem armOpenLoop_ctx_inSector (c : Config) (s : State) :
    (armOpenLoop c s).ctx.inSector = (getInputs c .openLoop s).ctx.inSector := by simp [armOpenLoop]
@[simp] theorem armOpenLoop_ctx_inSpeed (c : Config) (s : State) :
    (armOpenLoop c s).ctx.inSpeed = (getInputs c .openLoop s).ctx.inSpeed := by simp [armOpenLoop]
@[simp] theorem armOpenLoop_ctx_inDir (c : Config) (s : State) :
    (armOpenLoop c s).ctx.inDir = (getInputs c .openLoop s).ctx.inDir := by simp [armOpenLoop]
@[simp] theorem armOpenLoop_ctx_inIbus (c : Config) (s : State) :
    (armOpenLoop c s).ctx.inIbus = (getInputs c .openLoop s).ctx.inIbus := by simp [armOpenLoop]
@[simp] theorem armOpenLoop_ctx_commSector (c : Config) (s : State) :
    (armOpenLoop c s).ctx.commSector = (getInputs c .openLoop s).ctx.commSector := by simp [armOpenLoop]
@[simp] theorem armOpenLoop_ctx_tgtSpeed (c : Config) (s : State) :
    (armOpenLoop c s).ctx.tgtSpeed = (getInputs c .openLoop s).ctx.tgtSpeed := by simp [armOpenLoop]
@[simp] theorem armOpenLoop_ctx_tgtCurrent (c : Config) (s : State) :
    (armOpenLoop c s).ctx.tgtCurrent = (getInputs c .openLoop s).ctx.tgtCurrent := by simp [armOpenLoop]
@[simp] theorem armOpenLoop_out_pwmEn (c : Config) (s : State) :
    (armOpenLoop c s).out.pwmEn = true := by simp [armOpenLoop]
@[simp] theorem armOpenLoop_out_rdData (c : Config) (s : State) :
    (armOpenLoop c s).out.rdData = s.out.rdData := by simp [armOpenLoop]
@[simp] theorem armOpenLoop_out_pwmOvr (c : Config) (s : State) :
    (armOpenLoop c s).out.pwmOvr = overrideRow c s.runTable (commSectorOf (dirBit s) s.hall.sector) := by
  simp [armOpenLoop]

theorem armOpenLoop_duty (c : Config) (s : State) :
    (armOpenLoop c s).ctx.tgtDuty.toInt = scale15 (s.latch.ctrlIn).toInt s.latch.pwmPeriod.toNat
    ∧ ((armOpenLoop c s).out.pwmDuty.toNat : Int)
      = clamp (armOpenLoop c s).ctx.tgtDuty.toInt c.minDuty.toNat c.maxDuty.toNat := by
  unfold armOpenLoop
  simp [driveDuty_ctx_tgtDuty_toInt, driveDuty_out_pwmDuty_toNat, -driveDuty_ctx_tgtDuty]

/-! `armSpeedLoop` -/

@[simp] theorem armSpeedLoop_ctrl (c : Config) (s : State) :
    (armSpeedLoop c s).ctrl = s.ctrl := by simp [armSpeedLoop]
@[simp] theorem armSpeedLoop_ctrlState (c : Config) (s : State) :
    (armSpeedLoop c s).ctrlState = s.ctrlState := by simp [armSpeedLoop]
@[simp] theorem armSpeedLoop_flags (c : Config) (s : State) :
    (armSpeedLoop c s).flags = s.flags := by simp [armSpeedLoop]
@[simp] theorem armSpeedLoop_latch (c : Config) (s : State) :
    (armSpeedLoop c s).latch = s.latch := by simp [armSpeedLoop]
@[simp] theorem armSpeedLoop_hall (c : Config) (s : State) :
    (armSpeedLoop c s).hall = s.hall := by simp [armSpeedLoop]
@[simp] theorem armSpeedLoop_spd (c : Config) (s : State) : (armSpeedLoop c s).spd = s.spd := by simp [armSpeedLoop]
@[simp] theorem armSpeedLoop_cur (c : Config) (s : State) : (armSpeedLoop c s).cur = s.cur := by simp [armSpeedLoop]
@[simp] theorem armSpeedLoop_ident (c : Config) (s : State) :
    (armSpeedLoop c s).ident = s.ident := by simp [armSpeedLoop]
@[simp] theorem armSpeedLoop_pi1 (c : Config) (s : State) : (armSpeedLoop c s).pi1 = s.pi1 := by simp [armSpeedLoop]
@[simp] theorem armSpeedLoop_pi2 (c : Config) (s : State) : (armSpeedLoop c s).pi2 = s.pi2 := by simp [armSpeedLoop]
@[simp] theorem armSpeedLoop_runTable (c : Config) (s : State) :
    (armSpeedLoop c s).runTable = s.runTable := by simp [armSpeedLoop]
@[simp] theorem armSpeedLoop_inbox (c : Config) (s : State) :
    (armSpeedLoop c s).inbox = s.inbox := by simp [armSpeedLoop]
@[simp] theorem armSpeedLoop_ctx_inSector (c : Config) (s : State) :
    (armSpeedLoop c s).ctx.inSector = (getInputs c .speedLoop s).ctx.inSector := by simp [armSpeedLoop]
@[simp] theorem armSpeedLoop_ctx_inSpeed (c : Config) (s : State) :
    (armSpeedLoop c s).ctx.inSpeed = (getInputs c .speedLoop s).ctx.inSpeed := by simp [armSpeedLoop]
@[simp] theorem armSpeedLoop_ctx_inDir (c : Config) (s : State) :
    (armSpeedLoop c s).ctx.inDir = (getInputs c .speedLoop s).ctx.inDir := by simp [armSpeedLoop]
@[simp] theorem armSpeedLoop_ctx_inIbus (c : Config) (s : State) :
    (armSpeedLoop c s).ctx.inIbus = (getInputs c .speedLoop s).ctx.inIbus := by simp [armSpeedLoop]
@[simp] theorem armSpeedLoop_ctx_commSector (c : Config) (s : State) :
    (armSpeedLoop c s).ctx.commSector = (getInputs c .speedLoop s).ctx.commSector := by simp [armSpeedLoop]
@[simp] theorem armSpeedLoop_ctx_tgtSpeed (c : Config) (s : State) :
    (armSpeedLoop c s).ctx.tgtSpeed = (getInputs c .speedLoop s).ctx.tgtSpeed := by simp [armSpeedLoop]
@[simp] theorem armSpeedLoop_ctx_tgtCurrent (c : Config) (s : State) :
    (armSpeedLoop c s).ctx.tgtCurrent = (getInputs c .speedLoop s).ctx.tgtCurrent := by simp [armSpeedLoop]
@[simp] theorem armSpeedLoop_out_pwmEn (c : Config) (s : State) :
    (armSpeedLoop c s).out.pwmEn = true := by simp [armSpeedLoop]
@[simp] theorem armSpeedLoop_out_rdData (c : Config) (s : State) :
    (armSpeedLoop c s).out.rdData = s.out.rdData := by simp [armSpeedLoop]
@[simp] theorem armSpeedLoop_out_pwmOvr (c : Config) (s : State) :
    (armSpeedLoop c s).out.pwmOvr = overrideRow c s.runTable (commSectorOf (dirBit s) s.hall.sector) := by
  simp [armSpeedLoop]
@[simp] theorem armSpeedLoop_pi0 (c : Config) (s : State) :
    (armSpeedLoop c s).pi0 = piUpdate { s.pi0 with ref := fitSigned .tgtSpeed 16 (targetSpeed c s.latch.ctrlIn), meas := s.spd.speed } := by
  simp [armSpeedLoop]

theorem armSpeedLoop_duty (c : Config) (s : State) :
    (armSpeedLoop c s).ctx.tgtDuty.toInt = scale15 ((armSpeedLoop c s).pi0.out).toInt s.latch.pwmPeriod.toNat
    ∧ ((armSpeedLoop c s).out.pwmDuty.toNat : Int)
      = clamp (armSpeedLoop c s).ctx.tgtDuty.toInt c.minDuty.toNat c.maxDuty.toNat := by
  unfold armSpeedLoop
  simp [driveDuty_ctx_tgtDuty_toInt, driveDuty_out_pwmDuty_toNat, -driveDuty_ctx_tgtDuty]

/-! `armCurrentLoop` -/

@[simp] theorem armCurrentLoop_ctrl (c : Config) (s : State) :
    (armCurrentLoop c s).ctrl = s.ctrl := by simp [armCurrentLoop]
@[simp] theorem armCurrentLoop_ctrlState (c : Config) (s : State) :
    (armCurrentLoop c s).ctrlState = s.ctrlState := by simp [armCurrentLoop]
@[simp] theorem armCurrentLoop_flags (c : Config) (s : State) :
    (armCurrentLoop c s).flags = s.flags := by simp [armCurrentLoop]
@[simp] theorem armCurrentLoop_latch (c : Config) (s : State) :
    (armCurrentLoop c s).latch = s.latch := by simp [armCurrentLoop]
@[simp] theorem armCurrentLoop_hall (c : Config) (s : State) :
    (armCurrentLoop c s).hall = s.hall := by simp [armCurrentLoop]
@[simp] theorem armCurrentLoop_spd (c : Config) (s : State) :
    (armCurrentLoop c s).spd = s.spd := by simp [armCurrentLoop]
@[simp] theorem armCurrentLoop_cur (c : Config) (s : State) :
    (armCurrentLoop c s).cur = s.cur := by simp [armCurrentLoop]
@[simp] theorem armCurrentLoop_ident (c : Config) (s : State) :
    (armCurrentLoop c s).ident = s.ident := by simp [armCurrentLoop]
@[simp] theorem armCurrentLoop_pi0 (c : Config) (s : State) :
    (armCurrentLoop c s).pi0 = s.pi0 := by simp [armCurrentLoop]
@[simp] theorem armCurrentLoop_pi2 (c : Config) (s : State) :
    (armCurrentLoop c s).pi2 = s.pi2 := by simp [armCurrentLoop]
@[simp] theorem armCurrentLoop_runTable (c : Config) (s : State) :
    (armCurrentLoop c s).runTable = s.runTable := by simp [armCurrentLoop]
@[simp] theorem armCurrentLoop_inbox (c : Config) (s : State) :
    (armCurrentLoop c s).inbox = s.inbox := by simp [armCurrentLoop]
@[simp] theorem armCurrentLoop_ctx_inSector (c : Config) (s : State) :
    (armCurrentLoop c s).ctx.inSector = (getInputs c .currentLoop s).ctx.inSector := by simp [armCurrentLoop]
@[simp] theorem armCurrentLoop_ctx_inSpeed (c : Config) (s : State) :
    (armCurrentLoop c s).ctx.inSpeed = (getInputs c .currentLoop s).ctx.inSpeed := by simp [armCurrentLoop]
@[simp] theorem armCurrentLoop_ctx_inDir (c : Config) (s : State) :
    (armCurrentLoop c s).ctx.inDir = (getInputs c .currentLoop s).ctx.inDir := by simp [armCurrentLoop]
@[simp] theorem armCurrentLoop_ctx_inIbus (c : Config) (s : State) :
    (armCurrentLoop c s).ctx.inIbus = (getInputs c .currentLoop s).ctx.inIbus := by simp [armCurrentLoop]
@[simp] theorem armCurrentLoop_ctx_commSector (c : Config) (s : State) :
    (armCurrentLoop c s).ctx.commSector = (getInputs c .currentLoop s).ctx.commSector := by simp [armCurrentLoop]
@[simp] theorem armCurrentLoop_ctx_tgtSpeed (c : Config) (s : State) :
    (armCurrentLoop c s).ctx.tgtSpeed = (getInputs c .currentLoop s).ctx.tgtSpeed := by simp [armCurrentLoop]
@[simp] theorem armCurrentLoop_ctx_tgtCurrent (c : Config) (s : State) :
    (armCurrentLoop c s).ctx.tgtCurrent = (getInputs c .currentLoop s).ctx.tgtCurrent := by simp [armCurrentLoop]
@[simp] theorem armCurrentLoop_out_pwmEn (c : Config) (s : State) :
    (armCurrentLoop c s).out.pwmEn = true := by simp [armCurrentLoop]
@[simp] theorem armCurrentLoop_out_rdData (c : Config) (s : State) :
    (armCurrentLoop c s).out.rdData = s.out.rdData := by simp [armCurrentLoop]
@[simp] theorem armCurrentLoop_out_pwmOvr (c : Config) (s : State) :
    (armCurrentLoop c s).out.pwmOvr = overrideRow c s.runTable (commSectorOf (dirBit s) s.hall.sector) := by
  simp [armCurrentLoop]
@[simp] theorem armCurrentLoop_pi1 (c : Config) (s : State) :
    (armCurrentLoop c s).pi1 = piUpdate { s.pi1 with ref := fitSigned .tgtCurrent 16 (targetCurrent c s.latch.ctrlIn), meas := s.cur.ibusFilt } := by
  simp [armCurrentLoop]

theorem armCurrentLoop_duty (c : Config) (s : State) :
    (armCurrentLoop c s).ctx.tgtDuty.toInt = scale15 ((armCurrentLoop c s).pi1.out).toInt s.latch.pwmPeriod.toNat
    ∧ ((armCurrentLoop c s).out.pwmDuty.toNat : Int)
      = clamp (armCurrentLoop c s).ctx.tgtDuty.toInt c.minDuty.toNat c.maxDuty.toNat := by
  unfold armCurrentLoop
  simp [driveDuty_ctx_tgtDuty_toInt, driveDuty_out_pwmDuty_toNat, -driveDuty_ctx_tgtDuty]

/-! ## The step -/

/-- Exactly one arm runs (rule R133). -/
theorem ctrlStep_cases (c : Config) (s : State) :
    (s.ctrlState.toNat > 5 ∧ ctrlStep c s = enterFault s)
    ∨ (s.ctrlState = stFault ∧ ctrlStep c s = armFault s)
    ∨ (s.ctrlState.toNat < 5 ∧ runBit s = false ∧ ctrlStep c s = parkInInit s)
    ∨ (s.ctrlState = stInit ∧ runBit s = true ∧ ctrlStep c s = armInit s)
    ∨ (s.ctrlState = stLoop ∧ runBit s = true ∧ ctrlStep c s = armLoop s)
    ∨ (s.ctrlState = stOpenLoop ∧ runBit s = true ∧ ctrlStep c s = armOpenLoop c s)
    ∨ (s.ctrlState = stSpeedLoop ∧ runBit s = true ∧ ctrlStep c s = armSpeedLoop c s)
    ∨ (s.ctrlState = stCurrentLoop ∧ runBit s = true ∧ ctrlStep c s = armCurrentLoop c s) := by
  have all : ∀ b : BitVec 3, b.toNat > 5 ∨ b = 5 ∨ b = 0 ∨ b = 1 ∨ b = 2 ∨ b = 3 ∨ b = 4 := by decide
  unfold ctrlStep
  cases r : runBit s <;> rcases all s.ctrlState with h | h | h | h | h | h | h
  all_goals simp [h, armUnknown]
@[simp] theorem ctrlStep_ctrl (c : Config) (s : State) :
    (ctrlStep c s).ctrl = s.ctrl := by
  rcases ctrlStep_cases c s with h | h | h | h | h | h | h | h <;> simp [h, armLoop_eq]
@[simp] theorem ctrlStep_flags (c : Config) (s : State) :
    (ctrlStep c s).flags = s.flags := by
  rcases ctrlStep_cases c s with h | h | h | h | h | h | h | h <;> simp [h, armLoop_eq]
@[simp] theorem ctrlStep_latch (c : Config) (s : State) :
    (ctrlStep c s).latch = s.latch := by
  rcases ctrlStep_cases c s with h | h | h | h | h | h | h | h <;> simp [h, armLoop_eq]
@[simp] theorem ctrlStep_hall (c : Config) (s : State) :
    (ctrlStep c s).hall = s.hall := by
  rcases ctrlStep_cases c s with h | h | h | h | h | h | h | h <;> simp [h, armLoop_eq]
@[simp] theorem ctrlStep_spd (c : Config) (s : State) :
    (ctrlStep c s).spd = s.spd := by
  rcases ctrlStep_cases c s with h | h | h | h | h | h | h | h <;> simp [h, armLoop_eq]
@[simp] theorem ctrlStep_cur (c : Config) (s : State) :
    (ctrlStep c s).cur = s.cur := by
  rcases ctrlStep_cases c s with h | h | h | h | h | h | h | h <;> simp [h, armLoop_eq]
@[simp] theorem ctrlStep_ident (c : Config) (s : State) :
    (ctrlStep c s).ident = s.ident := by
  rcases ctrlStep_cases c s with h | h | h | h | h | h | h | h <;> simp [h, armLoop_eq]
@[simp] theorem ctrlStep_pi2 (c : Config) (s : State) :
    (ctrlStep c s).pi2 = s.pi2 := by
  rcases ctrlStep_cases c s with h | h | h | h | h | h | h | h <;> simp [h, armLoop_eq]
@[simp] theorem ctrlStep_runTable (c : Config) (s : State) :
    (ctrlStep c s).runTable = s.runTable := by
  rcases ctrlStep_cases c s with h | h | h | h | h | h | h | h <;> simp [h, armLoop_eq]
@[simp] theorem ctrlStep_inbox (c : Config) (s : State) :
    (ctrlStep c s).inbox = s.inbox := by
  rcases ctrlStep_cases c s with h | h | h | h | h | h | h | h <;> simp [h, armLoop_eq]
@[simp] theorem ctrlStep_out_rdData (c : Config) (s : State) :
    (ctrlStep c s).out.rdData = s.out.rdData := by
  rcases ctrlStep_cases c s with h | h | h | h | h | h | h | h <;> simp [h, armLoop_eq]
@[simp] theorem ctrlStep_pi0_kp (c : Config) (s : State) :
    (ctrlStep c s).pi0.kp = s.pi0.kp := by
  rcases ctrlStep_cases c s with h | h | h | h | h | h | h | h <;> simp [h, armLoop_eq]
@[simp] theorem ctrlStep_pi0_ki (c : Config) (s : State) :
    (ctrlStep c s).pi0.ki = s.pi0.ki := by
  rcases ctrlStep_cases c s with h | h | h | h | h | h | h | h <;> simp [h, armLoop_eq]
@[simp] theorem ctrlStep_pi0_kc (c : Config) (s : State) :
    (ctrlStep c s).pi0.kc = s.pi0.kc := by
  rcases ctrlStep_cases c s with h | h | h | h | h | h | h | h <;> simp [h, armLoop_eq]
@[simp] theorem ctrlStep_pi0_outMin (c : Config) (s : State) :
    (ctrlStep c s).pi0.outMin = s.pi0.outMin := by
  rcases ctrlStep_cases c s with h | h | h | h | h | h | h | h <;> simp [h, armLoop_eq]
@[simp] theorem ctrlStep_pi0_outMax (c : Config) (s : State) :
    (ctrlStep c s).pi0.outMax = s.pi0.outMax := by
  rcases ctrlStep_cases c s with h | h | h | h | h | h | h | h <;> simp [h, armLoop_eq]
@[simp] theorem ctrlStep_pi1_kp (c : Config) (s : State) :
    (ctrlStep c s).pi1.kp = s.pi1.kp := by
  rcases ctrlStep_cases c s with h | h | h | h | h | h | h | h <;> simp [h, armLoop_eq]
@[simp] theorem ctrlStep_pi1_ki (c : Config) (s : State) :
    (ctrlStep c s).pi1.ki = s.pi1.ki := by
  rcases ctrlStep_cases c s with h | h | h | h | h | h | h | h <;> simp [h, armLoop_eq]
@[simp] theorem ctrlStep_pi1_kc (c : Config) (s : State) :
    (ctrlStep c s).pi1.kc = s.pi1.kc := by
  rcases ctrlStep_cases c s with h | h | h | h | h | h | h | h <;> simp [h, armLoop_eq]
@[simp] theorem ctrlStep_pi1_outMin (c : Config) (s : State) :
    (ctrlStep c s).pi1.outMin = s.pi1.outMin := by
  rcases ctrlStep_cases c s with h | h | h | h | h | h | h | h <;> simp [h, armLoop_eq]
@[simp] theorem ctrlStep_pi1_outMax (c : Config) (s : State) :
    (ctrlStep c s).pi1.outMax = s.pi1.outMax := by
  rcases ctrlStep_cases c s with h | h | h | h | h | h | h | h <;> simp [h, armLoop_eq]

end Sys2Proof.Machine
end

