-- ==== Sys2Proof/Laws/Decode.lean ====
section
/-! SUPPORT. Case analysis on what a word decodes to, so that no later proof unfolds the decoder. -/

namespace Sys2Proof

/-- Any relation between a word and an operation that holds form by form holds of the decoder. -/
theorem decode_cases (P : EventWord → Instr → Prop)
    (nopev : P 0 .nopev) (reset : P 0xF000000000000000 .reset)
    (tick : ∀ w : EventWord, w.extractLsb' 60 4 = 1 → w.extractLsb' 51 9 = 0 →
      P w (.tick (w.extractLsb' 48 3) (w.extractLsb' 32 16) (w.extractLsb' 16 16) (w.extractLsb' 0 16)))
    (tclk : ∀ w : EventWord, w.extractLsb' 60 4 = 2 → w.extractLsb' 32 28 = 0 → P w (.tclk (w.extractLsb' 0 32)))
    (wr : ∀ w : EventWord, w.extractLsb' 60 4 = 3 → w.extractLsb' 24 36 = 0 →
      P w (decodeWrite (w.extractLsb' 16 8) (w.extractLsb' 0 16)))
    (rd : ∀ w : EventWord, w.extractLsb' 60 4 = 4 → w.extractLsb' 24 36 = 0 → w.extractLsb' 0 16 = 0 →
      P w (.rd (w.extractLsb' 16 8)))
    (rsvd : ∀ w : EventWord, reservedWord w = true → P w (.rsvd w)) (w : EventWord) : P w (decode w) := by
  unfold decode eventClass
  by_cases e0 : w = 0
  · subst e0; exact nopev
  by_cases e1 : w = 0xF000000000000000
  · subst e1; exact reset
  rw [if_neg e0, if_neg e1]
  by_cases e2 : w.extractLsb' 60 4 = 1 ∧ w.extractLsb' 51 9 = 0
  · rw [if_pos e2]; exact tick w e2.1 e2.2
  by_cases e3 : w.extractLsb' 60 4 = 2 ∧ w.extractLsb' 32 28 = 0
  · rw [if_neg e2, if_pos e3]; exact tclk w e3.1 e3.2
  by_cases e4 : w.extractLsb' 60 4 = 3 ∧ w.extractLsb' 24 36 = 0
  · rw [if_neg e2, if_neg e3, if_pos e4]; exact wr w e4.1 e4.2
  by_cases e5 : w.extractLsb' 60 4 = 4 ∧ w.extractLsb' 24 36 = 0 ∧ w.extractLsb' 0 16 = 0
  · rw [if_neg e2, if_neg e3, if_neg e4, if_pos e5]; exact rd w e5.1 e5.2.1 e5.2.2
  rw [if_neg e2, if_neg e3, if_neg e4, if_neg e5]
  refine rsvd w ?_
  simp only [reservedWord, Bool.not_eq_true', Bool.or_eq_false_iff, Bool.and_eq_false_iff, beq_eq_false_iff_ne]
  tauto

/-- The eight command codes, and the codes above them. -/
theorem decodeCommand_cases (P : Word → Instr → Prop) (c0 : P 0 .cmdNop) (c1 : P 1 .cmdInit) (c2 : P 2 .cmdIdStart)
    (c3 : P 3 .cmdIdHandover) (c4 : P 4 .cmdTblLoadConst) (c5 : P 5 .cmdTblLoadId) (c6 : P 6 .cmdCtrlReset)
    (c7 : P 7 .cmdCtrlFault) (rsvd : ∀ v : Word, 8 ≤ v.toNat → P v (.cmdRsvd v)) (v : Word) :
    P v (decodeCommand v) := by
  have above : v ≠ 0 → v ≠ 1 → v ≠ 2 → v ≠ 3 → v ≠ 4 → v ≠ 5 → v ≠ 6 → v ≠ 7 → 8 ≤ v.toNat := by
    simp only [ne_eq, ← BitVec.toNat_inj]; simp; omega
  unfold decodeCommand
  split_ifs <;> subst_vars <;> first | assumption | (apply rsvd; apply above <;> assumption)

/-- A write by its address. -/
theorem decodeWrite_cases (P : BitVec 8 → Word → Instr → Prop) (cmd : ∀ d, P 0 d (decodeCommand d))
    (ctrl : ∀ d, P 1 d (.wrCtrl d)) (status : ∀ d, P 2 d (.wrStatus d))
    (tbl8x : ∀ lo d, P (0x8#4 ++ lo) d (.wrTbl8x lo d)) (tbl9x : ∀ lo d, P (0x24#6 ++ lo) d (.wrTbl9x lo d))
    (tbl94 : ∀ d, P 0x94 d (.wrTbl94 d)) (ro : ∀ a d, writable a = false → P a d (.wrRo a d)) (a : BitVec 8) (d : Word) :
    P a d (decodeWrite a d) := by
  have h8 : ∀ a : BitVec 8, a.extractLsb' 4 4 = 8 → a = 0x8#4 ++ a.extractLsb' 0 4 := by decide
  have h9 : ∀ a : BitVec 8, a.extractLsb' 2 6 = 0x24 → a = 0x24#6 ++ a.extractLsb' 0 2 := by decide
  have hr : ∀ a : BitVec 8, a ≠ 0 ∧ a ≠ 1 ∧ a ≠ 2 ∧ a.extractLsb' 4 4 ≠ 8 ∧ a.extractLsb' 2 6 ≠ 0x24 ∧ a ≠ 0x94 →
      writable a = false := by decide
  unfold decodeWrite
  split
  · subst a; exact cmd d
  split
  · subst a; exact ctrl d
  split
  · subst a; exact status d
  split
  · have := tbl8x (a.extractLsb' 0 4) d
    rwa [← h8 a (by assumption)] at this
  split
  · have := tbl9x (a.extractLsb' 0 2) d
    rwa [← h9 a (by assumption)] at this
  split
  · subst a; exact tbl94 d
  · exact ro a d (hr a ⟨by assumption, by assumption, by assumption, by assumption, by assumption, by assumption⟩)

end Sys2Proof
end

