-- ==== Sys2Proof/Laws/Identifier.lean ====
section
/-! SUPPORT. What the identifier can do: the drive, the reading, one step, and what a step leaves alone. -/

namespace Sys2Proof.Machine

/-- A reading fails when it is illegal or repeats the last one. -/
theorem readingFails_iff (code : BitVec 3) (s : State) :
    readingFails code s = true ↔ code = 0 ∨ code = 7 ∨ code = s.ident.hallLast := by
  have : ∀ b : BitVec 3, ¬ ValidCode b ↔ b = 0 ∨ b = 7 := by decide
  simp only [readingFails, decide_eq_true_eq, this, or_assoc]

/-- The failure count after one more failure: it saturates at 7 (rule R152). -/
def failCntNext (n : BitVec 3) : BitVec 3 := if n.toNat < 7 then n + 1 else n

theorem failCntNext_toNat (n : BitVec 3) : (failCntNext n).toNat = min (n.toNat + 1) 7 := by
  revert n; decide

/-- All `ID_FAILED` does. -/
theorem idFailed_eq (s : State) :
    idFailed s = { s with
      flags := { s.flags with idFail := true }
      ident := { s.ident with failCnt := failCntNext s.ident.failCnt } } := by
  unfold idFailed failCntNext
  by_cases h : s.ident.failCnt.toNat < 7
  · simp only [raise, setFlag, h, if_true]
  · simp only [raise, setFlag, h, if_false]

/-- All the reading at the end of an interval does (rule R151, (a) to (e)). -/
theorem idReading_eq (c : Config) (code : BitVec 3) (v : Fin 6) (s : State) :
    idReading c code v s = { s with
      flags := { s.flags with
        hallFail := s.flags.hallFail || illegalCode code
        idFail := s.flags.idFail || readingFails code s }
      ident := { s.ident with
        hallNow := code, hallLast := code, icnt := 0
        failCnt := if readingFails code s then failCntNext s.ident.failCnt else s.ident.failCnt
        map := idRecord c code v s.ident.map
        vec := if readingFails code s && c.idAbortOnFail then 6 else s.ident.vec + 1 } } := by
  unfold idReading
  cases h : readingFails code s <;> simp [hallRead_eq, idFailed_eq]

/-- The map after a reading: a valid code's row gets the pattern of the vector. -/
theorem idRecord_row (c : Config) (code : BitVec 3) (v : Fin 6) (t : SectorTable) (r : Fin 7) :
    (idRecord c code v t)[r] = if code.toNat = r.val ∧ 1 ≤ r.val then c.idBldc[v] else t[r] := by
  unfold idRecord
  by_cases h : ValidCode code
  · rw [dif_pos h]
    by_cases e : code.toNat = r.val
    · have hr : 1 ≤ r.val := by have := h.1; omega
      simp [e, hr]
    · simp [e]
  · have : ¬ (code.toNat = r.val ∧ 1 ≤ r.val) := by
      rintro ⟨e, k⟩; exact h ⟨by omega, by have := r.isLt; omega⟩
    rw [dif_neg h, if_neg this]

/-- The identifier's duty (rules R96 and R151). -/
theorem idDrive_duty (c : Config) (v : Fin 6) (s : State) :
    (idDrive c v s).ident.duty.toInt = scale15 (idDrive c v s).pi2.out.toInt s.latch.pwmPeriod.toNat
    ∧ ((idDrive c v s).out.pwmDuty.toNat : Int)
      = clamp (idDrive c v s).ident.duty.toInt c.minDuty.toNat c.maxDuty.toNat := by
  refine ⟨?_, ?_⟩
  · have h : (idDrive c v s).ident.duty
        = BitVec.ofInt 32 (scale15 (idDrive c v s).pi2.out.toInt s.latch.pwmPeriod.toNat) := rfl
    have := toInt16_range (idDrive c v s).pi2.out; have := toNat16_range s.latch.pwmPeriod
    have := scale15_range (a := (idDrive c v s).pi2.out.toInt) (b := s.latch.pwmPeriod.toNat) (by omega) (by omega)
      (by omega) (by omega)
    rw [h, toInt_ofInt32 (by omega) (by omega)]
  · exact clampDuty_toNat ..

/-- A tick of vector `v` that is not the last of its interval. -/
theorem idVector_counts (c : Config) (code : BitVec 3) (v : Fin 6) (s : State)
    (h : s.ident.icnt.toNat + 1 < c.idInterval.toNat) :
    idVector c code v s = { idDrive c v s with
      ident := { s.ident with duty := (idDrive c v s).ident.duty, icnt := s.ident.icnt + 1 } } := by
  have : ¬ (idDrive c v s).ident.icnt.toNat + 1 ≥ c.idInterval.toNat := by rw [idDrive_ident_icnt]; omega
  unfold idVector
  simp only [this, if_false]
  rfl

/-- The last tick of vector `v`'s interval. -/
theorem idVector_reads (c : Config) (code : BitVec 3) (v : Fin 6) (s : State)
    (h : ¬ s.ident.icnt.toNat + 1 < c.idInterval.toNat) :
    idVector c code v s = idReading c code v (idDrive c v s) := by
  have : (idDrive c v s).ident.icnt.toNat + 1 ≥ c.idInterval.toNat := by rw [idDrive_ident_icnt]; omega
  unfold idVector
  simp only [this, if_true]

/-- Once finished, a step only completes again (rule R157). -/
theorem idStep_finished (c : Config) (code : BitVec 3) (s : State) (h : ¬ s.ident.vec.toNat < 6) :
    idStep c code s = idComplete s := by
  unfold idStep
  rw [dif_neg h, if_pos (by omega)]

/-- A step at vector `v`: the vector, then the completion test. -/
theorem idStep_vector (c : Config) (code : BitVec 3) (s : State) (v : Fin 6) (h : s.ident.vec.toNat = v.val) :
    idStep c code s = if (idVector c code v s).ident.vec.toNat ≥ 6 then idComplete (idVector c code v s)
      else idVector c code v s := by
  have hv : s.ident.vec.toNat < 6 := by omega
  have : (⟨s.ident.vec.toNat, hv⟩ : Fin 6) = v := Fin.ext h
  unfold idStep
  rw [dif_pos hv, this]

@[simp] theorem idVector_ctrl (c : Config) (code : BitVec 3) (v : Fin 6) (s : State) :
    (idVector c code v s).ctrl = s.ctrl := by
  by_cases h : s.ident.icnt.toNat + 1 < c.idInterval.toNat <;> simp [idVector_counts, idVector_reads, h, idReading_eq]
@[simp] theorem idVector_ctrlState (c : Config) (code : BitVec 3) (v : Fin 6) (s : State) :
    (idVector c code v s).ctrlState = s.ctrlState := by
  by_cases h : s.ident.icnt.toNat + 1 < c.idInterval.toNat <;> simp [idVector_counts, idVector_reads, h, idReading_eq]
@[simp] theorem idVector_latch (c : Config) (code : BitVec 3) (v : Fin 6) (s : State) :
    (idVector c code v s).latch = s.latch := by
  by_cases h : s.ident.icnt.toNat + 1 < c.idInterval.toNat <;> simp [idVector_counts, idVector_reads, h, idReading_eq]
@[simp] theorem idVector_ctx (c : Config) (code : BitVec 3) (v : Fin 6) (s : State) :
    (idVector c code v s).ctx = s.ctx := by
  by_cases h : s.ident.icnt.toNat + 1 < c.idInterval.toNat <;> simp [idVector_counts, idVector_reads, h, idReading_eq]
@[simp] theorem idVector_hall (c : Config) (code : BitVec 3) (v : Fin 6) (s : State) :
    (idVector c code v s).hall = s.hall := by
  by_cases h : s.ident.icnt.toNat + 1 < c.idInterval.toNat <;> simp [idVector_counts, idVector_reads, h, idReading_eq]
@[simp] theorem idVector_spd (c : Config) (code : BitVec 3) (v : Fin 6) (s : State) :
    (idVector c code v s).spd = s.spd := by
  by_cases h : s.ident.icnt.toNat + 1 < c.idInterval.toNat <;> simp [idVector_counts, idVector_reads, h, idReading_eq]
@[simp] theorem idVector_cur (c : Config) (code : BitVec 3) (v : Fin 6) (s : State) :
    (idVector c code v s).cur = s.cur := by
  by_cases h : s.ident.icnt.toNat + 1 < c.idInterval.toNat <;> simp [idVector_counts, idVector_reads, h, idReading_eq]
@[simp] theorem idVector_pi0 (c : Config) (code : BitVec 3) (v : Fin 6) (s : State) :
    (idVector c code v s).pi0 = s.pi0 := by
  by_cases h : s.ident.icnt.toNat + 1 < c.idInterval.toNat <;> simp [idVector_counts, idVector_reads, h, idReading_eq]
@[simp] theorem idVector_pi1 (c : Config) (code : BitVec 3) (v : Fin 6) (s : State) :
    (idVector c code v s).pi1 = s.pi1 := by
  by_cases h : s.ident.icnt.toNat + 1 < c.idInterval.toNat <;> simp [idVector_counts, idVector_reads, h, idReading_eq]
@[simp] theorem idVector_runTable (c : Config) (code : BitVec 3) (v : Fin 6) (s : State) :
    (idVector c code v s).runTable = s.runTable := by
  by_cases h : s.ident.icnt.toNat + 1 < c.idInterval.toNat <;> simp [idVector_counts, idVector_reads, h, idReading_eq]
@[simp] theorem idVector_inbox (c : Config) (code : BitVec 3) (v : Fin 6) (s : State) :
    (idVector c code v s).inbox = s.inbox := by
  by_cases h : s.ident.icnt.toNat + 1 < c.idInterval.toNat <;> simp [idVector_counts, idVector_reads, h, idReading_eq]
@[simp] theorem idVector_flags_tmrErr (c : Config) (code : BitVec 3) (v : Fin 6) (s : State) :
    (idVector c code v s).flags.tmrErr = s.flags.tmrErr := by
  by_cases h : s.ident.icnt.toNat + 1 < c.idInterval.toNat <;> simp [idVector_counts, idVector_reads, h, idReading_eq]
@[simp] theorem idVector_flags_offsDone (c : Config) (code : BitVec 3) (v : Fin 6) (s : State) :
    (idVector c code v s).flags.offsDone = s.flags.offsDone := by
  by_cases h : s.ident.icnt.toNat + 1 < c.idInterval.toNat <;> simp [idVector_counts, idVector_reads, h, idReading_eq]
@[simp] theorem idVector_flags_cfgErr (c : Config) (code : BitVec 3) (v : Fin 6) (s : State) :
    (idVector c code v s).flags.cfgErr = s.flags.cfgErr := by
  by_cases h : s.ident.icnt.toNat + 1 < c.idInterval.toNat <;> simp [idVector_counts, idVector_reads, h, idReading_eq]
@[simp] theorem idVector_flags_badEv (c : Config) (code : BitVec 3) (v : Fin 6) (s : State) :
    (idVector c code v s).flags.badEv = s.flags.badEv := by
  by_cases h : s.ident.icnt.toNat + 1 < c.idInterval.toNat <;> simp [idVector_counts, idVector_reads, h, idReading_eq]
@[simp] theorem idVector_ident_active (c : Config) (code : BitVec 3) (v : Fin 6) (s : State) :
    (idVector c code v s).ident.active = s.ident.active := by
  by_cases h : s.ident.icnt.toNat + 1 < c.idInterval.toNat <;> simp [idVector_counts, idVector_reads, h, idReading_eq]
@[simp] theorem idVector_out_rdData (c : Config) (code : BitVec 3) (v : Fin 6) (s : State) :
    (idVector c code v s).out.rdData = s.out.rdData := by
  by_cases h : s.ident.icnt.toNat + 1 < c.idInterval.toNat <;> simp [idVector_counts, idVector_reads, h, idReading_eq]
@[simp] theorem idVector_pi2_kp (c : Config) (code : BitVec 3) (v : Fin 6) (s : State) :
    (idVector c code v s).pi2.kp = s.pi2.kp := by
  by_cases h : s.ident.icnt.toNat + 1 < c.idInterval.toNat <;> simp [idVector_counts, idVector_reads, h, idReading_eq]
@[simp] theorem idVector_pi2_ki (c : Config) (code : BitVec 3) (v : Fin 6) (s : State) :
    (idVector c code v s).pi2.ki = s.pi2.ki := by
  by_cases h : s.ident.icnt.toNat + 1 < c.idInterval.toNat <;> simp [idVector_counts, idVector_reads, h, idReading_eq]
@[simp] theorem idVector_pi2_kc (c : Config) (code : BitVec 3) (v : Fin 6) (s : State) :
    (idVector c code v s).pi2.kc = s.pi2.kc := by
  by_cases h : s.ident.icnt.toNat + 1 < c.idInterval.toNat <;> simp [idVector_counts, idVector_reads, h, idReading_eq]
@[simp] theorem idVector_pi2_outMin (c : Config) (code : BitVec 3) (v : Fin 6) (s : State) :
    (idVector c code v s).pi2.outMin = s.pi2.outMin := by
  by_cases h : s.ident.icnt.toNat + 1 < c.idInterval.toNat <;> simp [idVector_counts, idVector_reads, h, idReading_eq]
@[simp] theorem idVector_pi2_outMax (c : Config) (code : BitVec 3) (v : Fin 6) (s : State) :
    (idVector c code v s).pi2.outMax = s.pi2.outMax := by
  by_cases h : s.ident.icnt.toNat + 1 < c.idInterval.toNat <;> simp [idVector_counts, idVector_reads, h, idReading_eq]
@[simp] theorem idVector_flags_idDone (c : Config) (code : BitVec 3) (v : Fin 6) (s : State) :
    (idVector c code v s).flags.idDone = s.flags.idDone := by
  by_cases h : s.ident.icnt.toNat + 1 < c.idInterval.toNat <;> simp [idVector_counts, idVector_reads, h, idReading_eq]
@[simp] theorem idVector_out_pwmEn (c : Config) (code : BitVec 3) (v : Fin 6) (s : State) :
    (idVector c code v s).out.pwmEn = true := by
  by_cases h : s.ident.icnt.toNat + 1 < c.idInterval.toNat <;> simp [idVector_counts, idVector_reads, h, idReading_eq]
@[simp] theorem idVector_out_pwmOvr (c : Config) (code : BitVec 3) (v : Fin 6) (s : State) :
    (idVector c code v s).out.pwmOvr = c.svTable[v] := by
  by_cases h : s.ident.icnt.toNat + 1 < c.idInterval.toNat <;> simp [idVector_counts, idVector_reads, h, idReading_eq]
@[simp] theorem idVector_out_pwmDuty (c : Config) (code : BitVec 3) (v : Fin 6) (s : State) :
    (idVector c code v s).out.pwmDuty = (idDrive c v s).out.pwmDuty := by
  by_cases h : s.ident.icnt.toNat + 1 < c.idInterval.toNat <;> simp [idVector_counts, idVector_reads, h, idReading_eq]
@[simp] theorem idVector_ident_duty (c : Config) (code : BitVec 3) (v : Fin 6) (s : State) :
    (idVector c code v s).ident.duty = (idDrive c v s).ident.duty := by
  by_cases h : s.ident.icnt.toNat + 1 < c.idInterval.toNat <;> simp [idVector_counts, idVector_reads, h, idReading_eq]
@[simp] theorem idVector_pi2 (c : Config) (code : BitVec 3) (v : Fin 6) (s : State) :
    (idVector c code v s).pi2 = piUpdate { s.pi2 with ref := c.idIlimit, meas := s.cur.ibusCal } := by
  by_cases h : s.ident.icnt.toNat + 1 < c.idInterval.toNat <;> simp [idVector_counts, idVector_reads, h, idReading_eq]

/-- A step either completes a finished run or runs the vector and then completes or not. -/
theorem idStep_cases (c : Config) (code : BitVec 3) (s : State) :
    (¬ s.ident.vec.toNat < 6 ∧ idStep c code s = idComplete s)
    ∨ ∃ v : Fin 6, s.ident.vec.toNat = v.val
      ∧ (((idVector c code v s).ident.vec.toNat ≥ 6 ∧ idStep c code s = idComplete (idVector c code v s))
        ∨ ((idVector c code v s).ident.vec.toNat < 6 ∧ idStep c code s = idVector c code v s)) := by
  by_cases h : s.ident.vec.toNat < 6
  · refine .inr ⟨⟨_, h⟩, rfl, ?_⟩
    rw [idStep_vector c code s ⟨_, h⟩ rfl]
    by_cases k : (idVector c code ⟨_, h⟩ s).ident.vec.toNat ≥ 6
    · exact .inl ⟨k, if_pos k⟩
    · exact .inr ⟨by omega, if_neg k⟩
  · exact .inl ⟨h, idStep_finished c code s h⟩

@[simp] theorem idStep_ctrl (c : Config) (code : BitVec 3) (s : State) :
    (idStep c code s).ctrl = s.ctrl := by
  rcases idStep_cases c code s with ⟨_, h⟩ | ⟨v, _, ⟨_, h⟩ | ⟨_, h⟩⟩ <;> simp [h]
@[simp] theorem idStep_ctrlState (c : Config) (code : BitVec 3) (s : State) :
    (idStep c code s).ctrlState = s.ctrlState := by
  rcases idStep_cases c code s with ⟨_, h⟩ | ⟨v, _, ⟨_, h⟩ | ⟨_, h⟩⟩ <;> simp [h]
@[simp] theorem idStep_latch (c : Config) (code : BitVec 3) (s : State) :
    (idStep c code s).latch = s.latch := by
  rcases idStep_cases c code s with ⟨_, h⟩ | ⟨v, _, ⟨_, h⟩ | ⟨_, h⟩⟩ <;> simp [h]
@[simp] theorem idStep_ctx (c : Config) (code : BitVec 3) (s : State) :
    (idStep c code s).ctx = s.ctx := by
  rcases idStep_cases c code s with ⟨_, h⟩ | ⟨v, _, ⟨_, h⟩ | ⟨_, h⟩⟩ <;> simp [h]
@[simp] theorem idStep_hall (c : Config) (code : BitVec 3) (s : State) :
    (idStep c code s).hall = s.hall := by
  rcases idStep_cases c code s with ⟨_, h⟩ | ⟨v, _, ⟨_, h⟩ | ⟨_, h⟩⟩ <;> simp [h]
@[simp] theorem idStep_spd (c : Config) (code : BitVec 3) (s : State) :
    (idStep c code s).spd = s.spd := by
  rcases idStep_cases c code s with ⟨_, h⟩ | ⟨v, _, ⟨_, h⟩ | ⟨_, h⟩⟩ <;> simp [h]
@[simp] theorem idStep_cur (c : Config) (code : BitVec 3) (s : State) :
    (idStep c code s).cur = s.cur := by
  rcases idStep_cases c code s with ⟨_, h⟩ | ⟨v, _, ⟨_, h⟩ | ⟨_, h⟩⟩ <;> simp [h]
@[simp] theorem idStep_pi0 (c : Config) (code : BitVec 3) (s : State) :
    (idStep c code s).pi0 = s.pi0 := by
  rcases idStep_cases c code s with ⟨_, h⟩ | ⟨v, _, ⟨_, h⟩ | ⟨_, h⟩⟩ <;> simp [h]
@[simp] theorem idStep_pi1 (c : Config) (code : BitVec 3) (s : State) :
    (idStep c code s).pi1 = s.pi1 := by
  rcases idStep_cases c code s with ⟨_, h⟩ | ⟨v, _, ⟨_, h⟩ | ⟨_, h⟩⟩ <;> simp [h]
@[simp] theorem idStep_runTable (c : Config) (code : BitVec 3) (s : State) :
    (idStep c code s).runTable = s.runTable := by
  rcases idStep_cases c code s with ⟨_, h⟩ | ⟨v, _, ⟨_, h⟩ | ⟨_, h⟩⟩ <;> simp [h]
@[simp] theorem idStep_inbox (c : Config) (code : BitVec 3) (s : State) :
    (idStep c code s).inbox = s.inbox := by
  rcases idStep_cases c code s with ⟨_, h⟩ | ⟨v, _, ⟨_, h⟩ | ⟨_, h⟩⟩ <;> simp [h]
@[simp] theorem idStep_flags_tmrErr (c : Config) (code : BitVec 3) (s : State) :
    (idStep c code s).flags.tmrErr = s.flags.tmrErr := by
  rcases idStep_cases c code s with ⟨_, h⟩ | ⟨v, _, ⟨_, h⟩ | ⟨_, h⟩⟩ <;> simp [h]
@[simp] theorem idStep_flags_offsDone (c : Config) (code : BitVec 3) (s : State) :
    (idStep c code s).flags.offsDone = s.flags.offsDone := by
  rcases idStep_cases c code s with ⟨_, h⟩ | ⟨v, _, ⟨_, h⟩ | ⟨_, h⟩⟩ <;> simp [h]
@[simp] theorem idStep_flags_cfgErr (c : Config) (code : BitVec 3) (s : State) :
    (idStep c code s).flags.cfgErr = s.flags.cfgErr := by
  rcases idStep_cases c code s with ⟨_, h⟩ | ⟨v, _, ⟨_, h⟩ | ⟨_, h⟩⟩ <;> simp [h]
@[simp] theorem idStep_flags_badEv (c : Config) (code : BitVec 3) (s : State) :
    (idStep c code s).flags.badEv = s.flags.badEv := by
  rcases idStep_cases c code s with ⟨_, h⟩ | ⟨v, _, ⟨_, h⟩ | ⟨_, h⟩⟩ <;> simp [h]
@[simp] theorem idStep_ident_active (c : Config) (code : BitVec 3) (s : State) :
    (idStep c code s).ident.active = s.ident.active := by
  rcases idStep_cases c code s with ⟨_, h⟩ | ⟨v, _, ⟨_, h⟩ | ⟨_, h⟩⟩ <;> simp [h]
@[simp] theorem idStep_out_rdData (c : Config) (code : BitVec 3) (s : State) :
    (idStep c code s).out.rdData = s.out.rdData := by
  rcases idStep_cases c code s with ⟨_, h⟩ | ⟨v, _, ⟨_, h⟩ | ⟨_, h⟩⟩ <;> simp [h]
@[simp] theorem idStep_pi2_kp (c : Config) (code : BitVec 3) (s : State) :
    (idStep c code s).pi2.kp = s.pi2.kp := by
  rcases idStep_cases c code s with ⟨_, h⟩ | ⟨v, _, ⟨_, h⟩ | ⟨_, h⟩⟩ <;> simp [h]
@[simp] theorem idStep_pi2_ki (c : Config) (code : BitVec 3) (s : State) :
    (idStep c code s).pi2.ki = s.pi2.ki := by
  rcases idStep_cases c code s with ⟨_, h⟩ | ⟨v, _, ⟨_, h⟩ | ⟨_, h⟩⟩ <;> simp [h]
@[simp] theorem idStep_pi2_kc (c : Config) (code : BitVec 3) (s : State) :
    (idStep c code s).pi2.kc = s.pi2.kc := by
  rcases idStep_cases c code s with ⟨_, h⟩ | ⟨v, _, ⟨_, h⟩ | ⟨_, h⟩⟩ <;> simp [h]
@[simp] theorem idStep_pi2_outMin (c : Config) (code : BitVec 3) (s : State) :
    (idStep c code s).pi2.outMin = s.pi2.outMin := by
  rcases idStep_cases c code s with ⟨_, h⟩ | ⟨v, _, ⟨_, h⟩ | ⟨_, h⟩⟩ <;> simp [h]
@[simp] theorem idStep_pi2_outMax (c : Config) (code : BitVec 3) (s : State) :
    (idStep c code s).pi2.outMax = s.pi2.outMax := by
  rcases idStep_cases c code s with ⟨_, h⟩ | ⟨v, _, ⟨_, h⟩ | ⟨_, h⟩⟩ <;> simp [h]

end Sys2Proof.Machine
end

