-- ==== Sys2Proof/Laws/PerInstr.lean ====
section
/-! SUPPORT. The per-instruction families: statements about an operation as syntax, one lemma per constructor. -/

namespace Sys2Proof.Laws

/-- The word of an operation matches the operation's own row of spec/opcode_table.json: `(EV and mask) = match`
(rule R77). -/
def EncodeMatches.Statement (i : Instr) : Prop :=
  ∃ row, opcodeRows[i.rowIndex]? = some row ∧ encode i &&& row.mask = row.bits

namespace EncodeMatches

/-- The bits of a `WR` word above the data, and of its data. -/
theorem encodeWr_and (addr m : BitVec 8) (data k : BitVec 16) :
    encodeWr addr data &&& (0xFFFFFFFFFF#40 ++ m ++ k) = 0x3000000000#40 ++ (addr &&& m) ++ (data &&& k) := by
  show (0x3#4 ++ 0#36 ++ addr ++ data) &&& _ = _
  have h : (0x3#4 ++ 0#36 : BitVec 40) &&& 0xFFFFFFFFFF#40 = 0x3000000000#40 := by decide
  rw [BitVec.and_append, BitVec.and_append, h]

theorem nopev : Statement .nopev := ⟨_, rfl, by decide⟩
theorem reset : Statement .reset := ⟨_, rfl, by decide⟩

theorem tick (code : BitVec 3) (ibus pot per : Word) : Statement (.tick code ibus pot per) := by
  refine ⟨_, rfl, ?_⟩
  show encodeTick code ibus pot per &&& (0x1FFF#13 ++ 0#3 ++ 0#16 ++ 0#16 ++ 0#16) = _
  show (0x1#4 ++ 0#9 ++ code ++ ibus ++ pot ++ per) &&& _ = _
  rw [BitVec.and_append, BitVec.and_append, BitVec.and_append, BitVec.and_append]
  simp

theorem tclk (n : DWord) : Statement (.tclk n) := by
  refine ⟨_, rfl, ?_⟩
  show encodeTclk n &&& (0xFFFFFFFF#32 ++ 0#32) = _
  show (0x2#4 ++ 0#28 ++ n) &&& _ = _
  rw [BitVec.and_append]
  simp

theorem cmdNop : Statement .cmdNop := ⟨_, rfl, by decide⟩
theorem cmdInit : Statement .cmdInit := ⟨_, rfl, by decide⟩
theorem cmdIdStart : Statement .cmdIdStart := ⟨_, rfl, by decide⟩
theorem cmdIdHandover : Statement .cmdIdHandover := ⟨_, rfl, by decide⟩
theorem cmdTblLoadConst : Statement .cmdTblLoadConst := ⟨_, rfl, by decide⟩
theorem cmdTblLoadId : Statement .cmdTblLoadId := ⟨_, rfl, by decide⟩
theorem cmdCtrlReset : Statement .cmdCtrlReset := ⟨_, rfl, by decide⟩
theorem cmdCtrlFault : Statement .cmdCtrlFault := ⟨_, rfl, by decide⟩

/-- Every row of one address: the data is not masked. -/
theorem encodeWr_address (addr : BitVec 8) (data : Word) :
    encodeWr addr data &&& (0xFFFFFFFFFF#40 ++ 0xFF#8 ++ 0#16) = 0x3000000000#40 ++ addr ++ 0#16 := by
  have h : addr &&& 0xFF#8 = addr := BitVec.and_allOnes
  rw [encodeWr_and, h, BitVec.and_zero]

theorem cmdRsvd (code : Word) : Statement (.cmdRsvd code) := ⟨_, rfl, encodeWr_address 0x00 code⟩
theorem wrCtrl (data : Word) : Statement (.wrCtrl data) := ⟨_, rfl, encodeWr_address 0x01 data⟩
theorem wrStatus (data : Word) : Statement (.wrStatus data) := ⟨_, rfl, encodeWr_address 0x02 data⟩

theorem wrTbl8x (lo : BitVec 4) (data : Word) : Statement (.wrTbl8x lo data) := by
  refine ⟨_, rfl, (encodeWr_and (0x8#4 ++ lo) 0xF0#8 data 0#16).trans ?_⟩
  have h : (0x8#4 ++ lo : BitVec 8) &&& 0xF0#8 = 0x80#8 := by revert lo; decide
  rw [h, BitVec.and_zero]; rfl

theorem wrTbl9x (lo : BitVec 2) (data : Word) : Statement (.wrTbl9x lo data) := by
  refine ⟨_, rfl, (encodeWr_and (0x24#6 ++ lo) 0xFC#8 data 0#16).trans ?_⟩
  have h : (0x24#6 ++ lo : BitVec 8) &&& 0xFC#8 = 0x90#8 := by revert lo; decide
  rw [h, BitVec.and_zero]; rfl

theorem wrTbl94 (data : Word) : Statement (.wrTbl94 data) := ⟨_, rfl, encodeWr_address 0x94 data⟩

theorem wrRo (addr : BitVec 8) (data : Word) : Statement (.wrRo addr data) := by
  refine ⟨_, rfl, (encodeWr_and addr 0#8 data 0#16).trans ?_⟩
  rw [BitVec.and_zero, BitVec.and_zero]; rfl

theorem rd (addr : BitVec 8) : Statement (.rd addr) := by
  refine ⟨_, rfl, ?_⟩
  show encodeRd addr &&& (0xFFFFFFFFFF#40 ++ 0#8 ++ 0xFFFF#16) = _
  show (0x4#4 ++ 0#36 ++ addr ++ 0#16) &&& _ = _
  rw [BitVec.and_append, BitVec.and_append]
  simp

theorem rsvd (word : EventWord) : Statement (.rsvd word) := ⟨_, rfl, BitVec.and_zero⟩

end EncodeMatches

end Sys2Proof.Laws
end

