-- ==== Sys2Proof/Laws/System.lean ====
section
/-! SUPPORT. What the system operations can do: initialisation, the tick, the commands, and the register space as it is read
after a write. -/

namespace Sys2Proof.Machine

/-- All `INIT_BODY` does: every element but `CTRL`, `RD_DATA` and the events to come takes its reset value. -/
theorem initBody_eq (c : Config) (s : State) :
    initBody c s = { State.resetWith c with
      ctrl := s.ctrl, out := { (State.resetWith c).out with rdData := s.out.rdData }, inbox := s.inbox } := by
  unfold initBody initElements State.resetWith tblLoadConst
  cases cfgCheck c <;> rfl

/-- All `RESET` does. -/
theorem resetOp_eq (c : Config) (s : State) : resetOp c s = { State.resetWith c with inbox := s.inbox } := by
  unfold resetOp; rw [initBody_eq]; rfl

/-- A tick with the identifier active. -/
theorem tick_active (c : Config) (code : BitVec 3) (ibus pot per : Word) (s : State) (h : s.ident.active = true) :
    tick c code ibus pot per s = idStep c code (tickFront c code ibus pot per s) := by simp [tick, h]

/-- A tick of the control machine. -/
theorem tick_inactive (c : Config) (code : BitVec 3) (ibus pot per : Word) (s : State) (h : s.ident.active = false) :
    tick c code ibus pot per s = ctrlStep c (tickFront c code ibus pot per s) := by simp [tick, h]

@[simp] theorem runBit_tickFront (c : Config) (code : BitVec 3) (ibus pot per : Word) (s : State) :
    runBit (tickFront c code ibus pot per s) = runBit s := by simp [runBit]

@[simp] theorem dirBit_tickFront (c : Config) (code : BitVec 3) (ibus pot per : Word) (s : State) :
    dirBit (tickFront c code ibus pot per s) = dirBit s := by simp [dirBit]

@[simp] theorem modeField_tickFront (c : Config) (code : BitVec 3) (ibus pot per : Word) (s : State) :
    modeField (tickFront c code ibus pot per s) = modeField s := by simp [modeField]

/-- `ID_START` is refused, or begins a run. -/
theorem idStart_cases (c : Config) (s : State) :
    (s.ctrlState.toNat ≥ 5 ∧ idStart c s = raise .badEv s)
    ∨ (s.ctrlState.toNat < 5 ∧ idStart c s = parkInInit { s with
        ident := { active := true, vec := 0, icnt := 0, duty := 0, hallNow := 0, hallLast := 0, failCnt := 0,
                   map := offTable c }
        flags := { s.flags with idFail := false, idDone := false }
        pi2 := piClear s.pi2 }) := by
  unfold idStart
  by_cases h : s.ctrlState.toNat ≥ 5
  · exact .inl ⟨h, if_pos h⟩
  · exact .inr ⟨by omega, if_neg h⟩

/-- `ID_HANDOVER` is refused, or ends the run. -/
theorem idHandover_cases (s : State) :
    (s.ident.active = false ∧ idHandover s = raise .badEv s)
    ∨ (s.ident.active = true ∧ idHandover s = { s with ident.active := false, out.pwmEn := false }) := by
  cases h : s.ident.active
  · exact .inl ⟨rfl, if_pos h⟩
  · exact .inr ⟨rfl, if_neg (by simp [h])⟩

/-- `TBL_LOAD_ID` is refused, or copies the map. -/
theorem tblLoadId_cases (s : State) :
    (s.flags.idDone = false ∧ tblLoadId s = raise .badEv s)
    ∨ (s.flags.idDone = true ∧ tblLoadId s = { s with runTable := s.ident.map }) := by
  cases h : s.flags.idDone
  · exact .inl ⟨rfl, if_pos h⟩
  · exact .inr ⟨rfl, if_neg (by simp [h])⟩

/-- `CTRL_RESET` is refused, or parks the machine in INIT. -/
theorem ctrlReset_cases (s : State) :
    ((s.flags.cfgErr = true ∨ s.ident.active = true) ∧ ctrlReset s = raise .badEv s)
    ∨ (s.flags.cfgErr = false ∧ s.ident.active = false ∧ ctrlReset s = parkInInit s) := by
  by_cases h : s.flags.cfgErr = true ∨ s.ident.active = true
  · exact .inl ⟨h, if_pos h⟩
  · refine .inr ⟨by simp_all, by simp_all, if_neg h⟩

/-! ## The run table and the register space -/

/-- The address of a word of a table at `base`. -/
theorem tableIndex_of_row {base : Nat} {a : BitVec 8} {r : Fin 7} {ch : Fin 3}
    (h : a.toNat = base + 3 * r.val + ch.val) : tableIndex base a = some (r, ch) := by
  have := r.isLt; have := ch.isLt
  unfold tableIndex
  rw [dif_pos (by omega)]
  refine congrArg some (Prod.ext (Fin.ext ?_) (Fin.ext ?_)) <;> dsimp only <;> omega

/-- Every address of a table has its row and channel. -/
theorem tableIndex_eq_some {base : Nat} {a : BitVec 8} {r : Fin 7} {ch : Fin 3} :
    tableIndex base a = some (r, ch) ↔ a.toNat = base + 3 * r.val + ch.val := by
  refine ⟨fun h => ?_, tableIndex_of_row⟩
  unfold tableIndex at h
  split at h
  · simp only [Option.some.injEq, Prod.mk.injEq, Fin.ext_iff] at h
    obtain ⟨h1, h2⟩ := h
    omega
  · cases h

/-- A word of the table reads as it was written. -/
theorem setTableWord_same (t : SectorTable) (i : Fin 7 × Fin 3) (v : Ovr) :
    tableWord (setTableWord t i v) i = v := by simp [tableWord, setTableWord]

/-- Every other word of the table is left alone. -/
theorem setTableWord_other (t : SectorTable) {i j : Fin 7 × Fin 3} (v : Ovr) (h : i ≠ j) :
    tableWord (setTableWord t i v) j = tableWord t j := by
  unfold tableWord setTableWord
  by_cases r : i.1 = j.1
  · have hc : i.2.val ≠ j.2.val := fun e => h (Prod.ext r (Fin.ext e))
    rw [Fin.getElem_fin, Fin.getElem_fin, Vector.getElem_set]
    rw [if_pos (by rw [r])]
    rw [Fin.getElem_fin, Vector.getElem_set_ne _ _ hc]
    simp [r]
  · have hr : i.1.val ≠ j.1.val := fun e => r (Fin.ext e)
    simp [Fin.getElem_fin, hr]

/-- All a write to a word of the run table does. -/
theorem writeRunTable_eq {a : BitVec 8} {r : Fin 7} {ch : Fin 3} (h : a.toNat = 0x80 + 3 * r.val + ch.val) (v : Word)
    (s : State) : writeRunTable a v s = { s with runTable := setTableWord s.runTable (r, ch) v } := by
  unfold writeRunTable
  rw [tableIndex_of_row h]

/-- A read below the tables does not see the run table. -/
theorem memRead_runTable (s : State) (t : SectorTable) (a : BitVec 8) (h : ¬(0x80 ≤ a.toNat ∧ a.toNat < 0xA0)) :
    memRead { s with runTable := t } a = memRead s a := by
  have h8 : a.toNat / 16 ≠ 8 := by omega
  have h9 : a.toNat / 16 ≠ 9 := by omega
  unfold memRead mappedWord
  generalize a.toNat / 16 = d at h8 h9
  split <;> first | rfl | contradiction

/-- A read in the run table's two blocks. -/
theorem memRead_block (s : State) (a : BitVec 8) (h : 0x80 ≤ a.toNat ∧ a.toNat < 0xA0) :
    memRead s a = ((tableIndex 0x80 a).map (tableWord s.runTable)).getD 0 := by
  have : a.toNat / 16 = 8 ∨ a.toNat / 16 = 9 := by omega
  unfold memRead mappedWord
  rcases this with e | e <;> rw [e] <;> rfl

/-- Read after write: the word written reads back, every other address reads as before. -/
theorem memRead_writeRunTable {b : BitVec 8} {r : Fin 7} {ch : Fin 3} (h : b.toNat = 0x80 + 3 * r.val + ch.val)
    (v : Word) (s : State) (a : BitVec 8) :
    memRead (writeRunTable b v s) a = if a = b then v else memRead s a := by
  have := r.isLt; have := ch.isLt
  rw [writeRunTable_eq h]
  by_cases hb : 0x80 ≤ a.toNat ∧ a.toNat < 0xA0
  · rw [memRead_block _ _ hb, memRead_block _ _ hb]
    by_cases e : a = b
    · rw [if_pos e, e, tableIndex_of_row h]
      simp [setTableWord_same]
    · rw [if_neg e]
      rcases k : tableIndex 0x80 a with _ | ⟨r', ch'⟩
      · rfl
      · have k' := tableIndex_eq_some.1 k
        have : (r, ch) ≠ (r', ch') := by
          rintro ⟨⟩; exact e (BitVec.eq_of_toNat_eq (by omega))
        simp [setTableWord_other _ _ this]
  · rw [memRead_runTable _ _ _ hb, if_neg]
    rintro rfl; omega

/-- A write of the stored flags is seen at `STATUS` alone. -/
theorem memRead_flags (s : State) (fl : Flags) (a : BitVec 8) (h : a ≠ 0x02) :
    memRead { s with flags := fl } a = memRead s a := by
  have e : ¬(a.toNat / 16 = 0 ∧ a.toNat % 16 = 2) := fun ⟨h1, h2⟩ =>
    h (BitVec.eq_of_toNat_eq (by show a.toNat = 2; omega))
  unfold memRead mappedWord
  by_cases h0 : a.toNat / 16 = 0
  · rw [h0]
    have h2 : a.toNat % 16 ≠ 2 := fun k => e ⟨h0, k⟩
    simp only [controlWord]
    generalize a.toNat % 16 = m at h2
    split <;> first | rfl | contradiction
  · generalize a.toNat / 16 = d at h0
    split <;> first | rfl | contradiction

end Sys2Proof.Machine
end

