-- ==== Sys2Proof/Tests/Slice0.lean ====
section
/-! SUPPORT. Small tests of the model: the well-formedness smoke, the decoding of words written out from the spec's
encodings, the spec's vectors on one operation each (95_test_vectors.md; the ids are that file's), and for every
obligation with hypotheses a state and operands that meet them all. -/

namespace Sys2Proof.Tests

open Sys2Proof.Machine

/-! ## The example configuration REFCFG (95_test_vectors.md section 1) -/

/-- The commutation vectors 0 to 5 of REFCFG, one row each. -/
def vec0 : OvrRow := #v[0x0000, 0x000D, 0x000C]
def vec1 : OvrRow := #v[0x0000, 0x000C, 0x000D]
def vec2 : OvrRow := #v[0x000C, 0x0000, 0x000D]
def vec3 : OvrRow := #v[0x000D, 0x0000, 0x000C]
def vec4 : OvrRow := #v[0x000D, 0x000C, 0x0000]
def vec5 : OvrRow := #v[0x000C, 0x000D, 0x0000]

/-- REFCFG. -/
def refcfg : Config :=
  { polePairs := 4, minSpeed := 500, maxSpeed := 3500, ratedCurrent := 0x4000, dirSafeSpeed := 100
    pi0 := { kp := 0x2000, ki := 0x0200, kc := 0x7FFF, outMin := 0, outMax := 32767 }
    pi1 := { kp := 0x3000, ki := 0x0400, kc := 0x7FFF, outMin := 0, outMax := 0x7000 }
    pi2 := { kp := 0x1000, ki := 0x0100, kc := 0x7FFF, outMin := 0, outMax := 0x2000 }
    idIlimit := 0x1000, idInterval := 4, idAbortOnFail := false, minDuty := 10, maxDuty := 1900
    speedMult := 2500000, maShift := 2, stopTimeout := 5, offsShift := 2, lpfGain := 0x4000, ovrOff := 0x000C
    bldcConst := #v[vec0, vec2, vec1, vec4, vec5, vec3]
    svTable := #v[vec0, vec1, vec2, vec3, vec4, vec5]
    idBldc := #v[vec2, vec3, vec4, vec5, vec0, vec1] }

/-- REFCFG after `RESET`. -/
def base : State := State.resetWith refcfg

/-- REFCFG in control state `st` with `CTRL` = `ctrl`, seeded, the sector at 5. -/
def running (st : BitVec 3) (ctrl : BitVec 4) : State :=
  { base with
    ctrlState := st, ctrl := ctrl
    hall := { base.hall with cur := 5, prev := 5, sector := 5, hseed := true, tmrRun := true } }

/-- REFCFG with the identifier active at vector `v`, `n` ticks counted. -/
def identifying (v : BitVec 3) (n : Word) : State :=
  { base with ident := { base.ident with active := true, vec := v, icnt := n, hallLast := 1 } }

/-! ## WellFormed -/

theorem test_wf_refuses_a_named_command : (Instr.cmdRsvd 7).wf = false := by decide
theorem test_wf_accepts_the_first_reserved_command : (Instr.cmdRsvd 8).wf = true := by decide
theorem test_wf_refuses_writable_addresses :
    (Instr.wrRo 0x00 0).wf = false ∧ (Instr.wrRo 0x01 0).wf = false ∧ (Instr.wrRo 0x02 0).wf = false
    ∧ (Instr.wrRo 0x80 0).wf = false ∧ (Instr.wrRo 0x94 0).wf = false := by decide
theorem test_wf_accepts_the_address_after_the_table : (Instr.wrRo 0x95 0).wf = true := by decide
theorem test_wf_refuses_valid_words_as_reserved :
    (Instr.rsvd 0x0000000000000000).wf = false ∧ (Instr.rsvd 0xF000000000000000).wf = false
    ∧ (Instr.rsvd 0x10050000400007D0).wf = false ∧ (Instr.rsvd 0x20000000000003E8).wf = false
    ∧ (Instr.rsvd 0x3000000000010005).wf = false ∧ (Instr.rsvd 0x4000000000020000).wf = false := by decide

/-! ## Decode: every constructor from a word written out from the formats of rules R60 to R64 -/

theorem test_decode_nopev : decode 0x0000000000000000 = .nopev := by decide
theorem test_decode_reset : decode 0xF000000000000000 = .reset := by decide
/-- `EV[50:48]` = 0b101, `EV[47:32]` = 0x8001, `EV[31:16]` = 0x7FFE, `EV[15:0]` = 0x07D0 (rule R61). -/
theorem test_decode_tick : decode 0x100580017FFE07D0 = .tick 0b101 0x8001 0x7FFE 0x07D0 := by decide
theorem test_decode_tclk : decode 0x2000000080000001 = .tclk 0x80000001 := by decide
theorem test_decode_cmdNop : decode 0x3000000000000000 = .cmdNop := by decide
theorem test_decode_cmdInit : decode 0x3000000000000001 = .cmdInit := by decide
theorem test_decode_cmdIdStart : decode 0x3000000000000002 = .cmdIdStart := by decide
theorem test_decode_cmdIdHandover : decode 0x3000000000000003 = .cmdIdHandover := by decide
theorem test_decode_cmdTblLoadConst : decode 0x3000000000000004 = .cmdTblLoadConst := by decide
theorem test_decode_cmdTblLoadId : decode 0x3000000000000005 = .cmdTblLoadId := by decide
theorem test_decode_cmdCtrlReset : decode 0x3000000000000006 = .cmdCtrlReset := by decide
theorem test_decode_cmdCtrlFault : decode 0x3000000000000007 = .cmdCtrlFault := by decide
/-- V5. -/
theorem test_decode_cmdRsvd : decode 0x3000000000000008 = .cmdRsvd 8 := by decide
/-- V16. -/
theorem test_decode_wrCtrl : decode 0x300000000001FFF5 = .wrCtrl 0xFFF5 := by decide
/-- V2. -/
theorem test_decode_wrStatus : decode 0x3000000000020080 = .wrStatus 0x0080 := by decide
/-- V18: address 0x87. -/
theorem test_decode_wrTbl8x : decode 0x3000000000871234 = .wrTbl8x 7 0x1234 := by decide
theorem test_decode_wrTbl9x : decode 0x300000000093ABCD = .wrTbl9x 3 0xABCD := by decide
theorem test_decode_wrTbl94 : decode 0x30000000009400FF = .wrTbl94 0x00FF := by decide
/-- V20 and V1. -/
theorem test_decode_wrRo :
    decode 0x3000000000950001 = .wrRo 0x95 1 ∧ decode 0x3000000000030005 = .wrRo 0x03 5 := by decide
/-- V14. -/
theorem test_decode_rd : decode 0x4000000000700000 = .rd 0x70 := by decide
/-- V7 to V13: a reserved class and one misplaced bit in each format. -/
theorem test_decode_rsvd :
    decode 0x5000000000000000 = .rsvd 0x5000000000000000 ∧ decode 0xF000000000000001 = .rsvd 0xF000000000000001
    ∧ decode 0x100D0000000007D0 = .rsvd 0x100D0000000007D0 ∧ decode 0x2000000100000005 = .rsvd 0x2000000100000005
    ∧ decode 0x4000000000020001 = .rsvd 0x4000000000020001 ∧ decode 0x3000000001010001 = .rsvd 0x3000000001010001
    ∧ decode 0x0000000000000001 = .rsvd 0x0000000000000001 := by decide
theorem test_decodeTableWord : decodeTableWord 64 0x3000000000000003 = some .cmdIdHandover := by decide
/-- The encoder on the worked words of rule R80. -/
theorem test_encode :
    encode (.tick 5 0 16384 2000) = 0x10050000400007D0 ∧ encode (.rd 0x02) = 0x4000000000020000
    ∧ encode (.wrTbl8x 9 0x000D) = 0x300000000089000D := by decide

/-! ## Arithmetic (section 3) -/

/-- A2, A6, A8. -/
theorem test_qmul : qmul (-32768) (-32768) = 32767 ∧ qmul (-1) 1 = -1 ∧ qmul (-3) 16384 = -2 := by decide
/-- A12, A13. -/
theorem test_asr : asr (-3) 1 = -2 ∧ asr (-32768) 15 = -1 := by decide
/-- A14. -/
theorem test_clamp_inverted : clamp 5 10 0 = 0 ∧ clamp (-5) 10 0 = 10 ∧ clamp 20 10 0 = 0 := by decide
/-- A17, A18. -/
theorem test_scale15 : scale15 32767 65535 = 65533 ∧ scale15 (-1) 2000 = -1 := by decide
/-- A19. -/
theorem test_sat32 : sat32 (2 ^ 31) = 2147483647 ∧ sat32 (-(2 ^ 31) - 1) = -2147483648 := by decide

/-! ## The PI controller (section 4) -/

/-- The gains and bounds of P3, the dynamic registers given. -/
def bankP3 (integ exc : Word) : PiBank :=
  { kp := 16384, ki := 4096, kc := 16384, outMin := BitVec.ofInt 16 (-1000), outMax := 1000, integ := integ
    ref := 0, meas := 0, out := 0, exc := exc }

/-- P3, first and second row: integrator, output, excess. -/
theorem test_pi_saturates :
    (piRun 3000 0 (bankP3 0 0)).integ.toInt = 375 ∧ (piRun 3000 0 (bankP3 0 0)).out.toInt = 1000
    ∧ (piRun 3000 0 (bankP3 0 0)).exc.toInt = -875
    ∧ (piRun 3000 0 (bankP3 375 (BitVec.ofInt 16 (-875)))).integ.toInt = 312 := by decide
/-- P6, first row: 17 bits before the clamp. -/
theorem test_pi_extremes :
    (piRun 0x8000 0x7FFF { bankP3 0 0 with kp := 32767, ki := 32767, kc := 0, outMin := 0x8000, outMax := 32767 }).exc
      = 32766 := by decide

/-! ## The estimators (sections 5 and 6) -/

/-- H1: the seed tick. -/
theorem test_tick_seeds :
    (tick refcfg 5 0 0 2000 base).hall
      = { cur := 5, prev := 5, sector := 5, chg := false, hseed := true, tmr := 0, tmrRun := true, period := 0,
          stopCnt := 0 } := by decide
/-- H3: the first edge, with the timer at 1000. -/
theorem test_tick_edge :
    let s := running 0 0
    let t := tick refcfg 4 0 0 2000 { s with hall.tmr := 1000 }
    t.hall.period = 1000 ∧ t.hall.tmr = 0 ∧ t.hall.stopCnt = 5 ∧ t.spd.maAvg = 250 ∧ t.spd.speed = 10000 := by decide
/-- H8: an edge to an illegal code keeps the sector. -/
theorem test_hall_illegal_edge :
    let t := hallHandler refcfg 7 (running 0 0)
    t.flags.hallFail = true ∧ t.hall.sector = 5 ∧ t.hall.cur = 7 := by decide
/-- H16 and H17: the divide skipped, and the speed saturated. -/
theorem test_speed :
    (speedCalc refcfg { base with spd.maAcc := 3, spd.speed := 1234, hall.stopCnt := 3 }).spd.speed = 1234
    ∧ (speedCalc refcfg { base with spd.maAcc := 40, spd.maAvg := 10, hall.period := 10, hall.stopCnt := 3 }).spd.speed
      = 32767 := by decide
/-- I4: the fourth sample ends the calibration. -/
theorem test_offset_done :
    let t := curStep refcfg { base with cur.offsAcc := 302, cur.offsCnt := 3, latch.ibusRaw := 101 }
    t.cur.offset = 100 ∧ t.flags.offsDone = true ∧ t.cur.ibusCal = 0 := by decide
/-- I5: the first filtered sample. -/
theorem test_filter :
    let t := curStep refcfg { base with cur.offset := 100, latch.ibusRaw := 301, flags.offsDone := true }
    t.cur.ibusCal = 201 ∧ t.cur.lpfAcc = 3293184 ∧ t.cur.ibusFilt = 100 := by decide

/-! ## The control machine (section 7, programs A and E) -/

/-- Program A, event 5, and K7. -/
theorem test_open_loop :
    let t := tick refcfg 5 0 16384 2000 (running 2 1)
    t.out.pwmDuty = 1000 ∧ t.out.pwmOvr = vec5 ∧ t.out.pwmEn = true ∧ t.ctx.commSector = 5 := by decide
/-- Program A, event 7: reversed, the duty clamped. -/
theorem test_open_loop_reversed :
    let t := tick refcfg 5 0 32767 2000 (running 2 3)
    t.out.pwmDuty = 1900 ∧ t.out.pwmOvr = vec2 ∧ t.ctx.commSector = 2 ∧ t.ctx.tgtDuty = 1999 := by decide
/-- K6: sector 0 reversed. -/
theorem test_override_off : overrideRow refcfg base.runTable (commSectorOf true 0) = offRow refcfg := by decide
/-- S1, loop tick 0. -/
theorem test_speed_loop :
    let t := tick refcfg 5 0 32767 2000 (running 3 5)
    t.ctx.tgtSpeed = 3499 ∧ t.pi0.out = 928 ∧ t.out.pwmDuty = 56 := by decide
/-- Program E, event 9. -/
theorem test_current_loop :
    let s := running 4 9
    let t := tick refcfg 5 2100 16384 1000 { s with cur.offset := 100, flags.offsDone := true }
    t.ctx.tgtCurrent = 8192 ∧ t.pi1.integ = 224 ∧ t.pi1.out = 2921 ∧ t.out.pwmDuty = 89 := by decide
/-- Program E, event 17: the reserved mode. -/
theorem test_reserved_mode : (tick refcfg 3 2100 16384 1000 (running 1 0xD)).ctrlState = stFault := by decide

/-! ## The identifier (programs C and D) -/

/-- Program D, v = 0, first tick: the drive. -/
theorem test_identifier_drives :
    let t := tick refcfg 5 0 0 2000 (identifying 0 0)
    t.pi2.out = 544 ∧ t.out.pwmDuty = 33 ∧ t.out.pwmOvr = vec0 ∧ t.ident.icnt = 1 := by decide
/-- Program D, v = 2, fourth tick: the reading repeats 1. -/
theorem test_identifier_repeats :
    let t := tick refcfg 1 0 0 2000 (identifying 2 3)
    t.flags.idFail = true ∧ t.ident.failCnt = 1 ∧ t.ident.map[1] = vec4 ∧ t.ident.vec = 3 := by decide
/-- Program D, the last reading completes the run in the same tick; the end state's `ID_HALL_NOW` and `ID_HALL_LAST`. -/
theorem test_identifier_completes :
    let t := tick refcfg 4 0 0 2000 (identifying 5 3)
    t.ident.vec = 6 ∧ t.flags.idDone = true ∧ t.out.pwmEn = false
    ∧ t.ident.hallNow = 4 ∧ t.ident.hallLast = 4 := by decide

/-! ## Commands, writes and reads (section 8) -/

/-- V28: `INIT` keeps `CTRL`. -/
theorem test_init : initBody refcfg { base with ctrl := 5, hall.hseed := true } = { base with ctrl := 5 } := by decide
/-- V30: a defective configuration. -/
theorem test_reset_defective :
    (resetOp { refcfg with pi1.outMin := 100, pi1.outMax := 50 } base).ctrlState = stFault := by decide
theorem test_idStart_accepted : (idStart refcfg { base with out.pwmEn := true }).ident.active = true := by decide
/-- V32: refused in FAULT. -/
theorem test_idStart_refused : idStart refcfg (running 5 0) = raise .badEv (running 5 0) := by decide
/-- V25. -/
theorem test_idHandover_refused : (idHandover base).flags.badEv = true := by decide
/-- V24. -/
theorem test_tblLoadId_refused : tblLoadId base = raise .badEv base := by decide
/-- V31. -/
theorem test_ctrlReset_refused : (ctrlReset { running 5 0 with flags.cfgErr := true }).ctrlState = stFault := by decide
/-- Program E, event 14. -/
theorem test_ctrlReset_accepted : (ctrlReset (running 5 0)).ctrlState = stInit := by decide
/-- H18: the timer wraps; H19: a stopped timer. -/
theorem test_tclk :
    (tclk 0x20 { base with hall.tmr := 0xFFFFFFF0, hall.tmrRun := true }).hall.tmr = 0x10
    ∧ (tclk 100 { base with hall.tmr := 5 }).hall.tmr = 5 := by decide
/-- V6: only bits 0, 1 and 7 act. -/
theorem test_wrStatus :
    writeStatus 0xFFFF { base with flags := { base.flags with hallFail := true, tmrErr := true, idFail := true,
                                                              badEv := true } }
      = { base with flags := { base.flags with idFail := true } } := by decide
/-- V18 and V19: address 0x87 is `RUN_TABLE[2][1]`. -/
theorem test_wrTbl :
    (writeRunTable 0x87 0x1234 base).runTable[2] = #v[0x000C, 0x1234, 0x000D]
    ∧ memRead (writeRunTable 0x87 0x1234 base) 0x87 = 0x1234 := by decide
/-- V14, H0, and program D's `RD ID_CTL`. -/
theorem test_rd :
    (readToPort 0x70 { base with out.rdData := 7 }).out.rdData = 0 ∧ (readToPort 0x02 base).out.rdData = 0x0040
    ∧ memRead { base with ident := { base.ident with vec := 6, active := true, hallNow := 4, hallLast := 4,
                                                     failCnt := 2 } } 0x60 = 0x244E := by decide
/-- A presented event is decoded and applied by the next step. -/
theorem test_step_runs_the_presented_event :
    step (base.withFetchWord 64 0x3000000000010005) = .next { base with ctrl := 5 } := rfl

/-! ## The ports (rules R28, R74 and R180) -/

theorem test_ports_after_reset :
    (ports base).pwmEn = false ∧ (ports base).pwmDuty = 10 ∧ (ports base).status = 0x40
    ∧ (ports base).pwmOvr = #v[0x000C, 0x000C, 0x000C] := by decide

theorem test_override_layout :
    (ovrEnh ovrLow, ovrEnl ovrLow, ovrDath ovrLow, ovrDatl ovrLow) = (true, true, false, true)
    ∧ (ovrEnh ovrOffDefault, ovrEnl ovrOffDefault, ovrDath ovrOffDefault, ovrDatl ovrOffDefault)
        = (true, true, false, false) := by decide

/-! ## Witnesses: for each obligation with hypotheses, a state and operands that meet them all, at the ends of a range where
the statement has one -/

theorem witness_DecodeInvertsEncode :
    (Instr.tick 7 0xFFFF 0x8000 0xFFFF).wf = true ∧ (Instr.cmdRsvd 0xFFFF).wf = true ∧ (Instr.wrRo 0x7F 0).wf = true
    ∧ (Instr.rsvd 0xFFFFFFFFFFFFFFFF).wf = true := by decide
/-- Both sides of the equivalence: a malformed word and a valid one. -/
theorem witness_MalformedWordsOnlyRaiseBadev :
    decode 0x4000000001000000 = .rsvd 0x4000000001000000 ∧ decode 0x4000000000FF0000 = .rd 0xFF := by decide
theorem witness_StepAppliesThePresentedEvent :
    (base.withFetchWord 64 0x3000000000000006).inbox = 0x3000000000000006 :: []
    ∧ decode 0x3000000000000006 = .cmdCtrlReset ∧ (Instr.cmdCtrlReset).wf = true := by decide
theorem witness_StepWithNoEventChangesNothing : base.inbox = [] ∧ State.reset.inbox = [] := ⟨rfl, rfl⟩
/-- A defect and no defect. -/
theorem witness_CfgCheckFindsExactlyNineDefects :
    cfgCheck { refcfg with idInterval := 0 } = true ∧ cfgCheck refcfg = false := by decide
theorem witness_RegisterMapReadsEveryElement :
    (0x10, base.pi0) ∈ [(0x10, base.pi0), (0x20, base.pi1), (0x30, base.pi2)]
    ∧ memRead base 0x94 = base.runTable[6][2] ∧ memRead base 0x95 = 0 ∧ memRead base 0xB4 = base.ident.map[6][2]
    ∧ memRead base 0xB5 = 0 := by decide
theorem witness_ReadWritesOnlyRdData : mappedWord base 0x1C = none ∧ memRead base 0x1B = base.ctx.inIbus := by decide
theorem witness_WritesElsewhereOnlyRaiseBadev :
    (0x03#8 ≠ 0 ∧ 0x03#8 ≠ 1 ∧ 0x03#8 ≠ 2 ∧ ¬(0x80 ≤ (0x03#8).toNat ∧ (0x03#8).toNat ≤ 0x94))
    ∧ (0x7F#8 ≠ 0 ∧ 0x7F#8 ≠ 1 ∧ 0x7F#8 ≠ 2 ∧ ¬(0x80 ≤ (0x7F#8).toNat ∧ (0x7F#8).toNat ≤ 0x94))
    ∧ (0x95#8 ≠ 0 ∧ 0x95#8 ≠ 1 ∧ 0x95#8 ≠ 2 ∧ ¬(0x80 ≤ (0x95#8).toNat ∧ (0x95#8).toNat ≤ 0x94)) := by decide
/-- The first and the last word of each of the three table rows. -/
theorem witness_TableWritesReplaceOneWord :
    (0x80 + (0x0#4).toNat = 0x80 + 3 * (0 : Fin 7).val + (0 : Fin 3).val)
    ∧ (0x80 + (0xF#4).toNat = 0x80 + 3 * (5 : Fin 7).val + (0 : Fin 3).val)
    ∧ (0x90 + (0#2).toNat = 0x80 + 3 * (5 : Fin 7).val + (1 : Fin 3).val)
    ∧ (0x90 + (3#2).toNat = 0x80 + 3 * (6 : Fin 7).val + (1 : Fin 3).val)
    ∧ (0x94 = 0x80 + 3 * (6 : Fin 7).val + (2 : Fin 3).val) := by decide
theorem witness_ReservedCommandsOnlyRaiseBadev : 8 ≤ (0x0008#16).toNat ∧ 8 ≤ (0xFFFF#16).toNat := by decide
/-- Both clauses, at the states 4 and 5 where they meet. -/
theorem witness_IdStartBeginsAnEmptyRun : (running 5 0).ctrlState.toNat ≥ 5 ∧ (running 4 0).ctrlState.toNat < 5 := by decide
theorem witness_IdHandoverEndsTheRun :
    base.ident.active = false ∧ (identifying 3 0).ident.active = true := by decide
theorem witness_TableLoadsReplaceTheRunTable :
    base.flags.idDone = false ∧ (raise .idDone base).flags.idDone = true := by decide
theorem witness_CtrlResetReturnsToInit :
    ((raise .cfgErr base).flags.cfgErr = true ∨ base.ident.active = true)
    ∧ ((running 5 0).flags.cfgErr = false ∧ (running 5 0).ident.active = false) := by decide
theorem witness_TickRunsTheUnitsInOrder :
    (identifying 0 0).ident.active = true ∧ (running 2 1).ident.active = false := by decide
/-- An event that is no tick, answering a next state. -/
theorem witness_TickLatchesItsFields :
    exec (.tclk 5) base = .next base ∧ ∀ code ibus pot per, Instr.tclk 5 ≠ .tick code ibus pot per :=
  ⟨rfl, fun _ _ _ _ h => by cases h⟩
theorem witness_SeedTickAdoptsThePins : base.hall.hseed = false := by decide
/-- With both clauses: pins 4 against a stored 5, and pins 5. -/
theorem witness_HallTickDetectsEdges :
    (running 0 0).hall.hseed = true ∧ (running 0 0).hall.chg = false ∧ 4#3 ≠ (running 0 0).hall.cur
    ∧ 5#3 = (running 0 0).hall.cur := by decide
/-- At the largest accumulator of REFCFG's shift. -/
theorem witness_SpeedFilterIsExact :
    let s := { base with spd.maAcc := 0x3FFFFFFFF, spd.maAvg := 0xFFFFFFFF, hall.period := 0xFFFFFFFF }
    refcfg.maShift ≤ 15 ∧ s.spd.maAvg.toNat = s.spd.maAcc.toNat / 2 ^ refcfg.maShift
    ∧ s.spd.maAcc.toNat ≤ 2 ^ (32 + refcfg.maShift) - 1 := by decide
/-- Four ticks, the last of which completes the calibration, and three. -/
theorem witness_OffsetIsTheAverageOfTheFirstSamples :
    refcfg.offsShift ≤ 15 ∧ base.flags.offsDone = false ∧ base.cur.offsAcc = 0 ∧ base.cur.offsCnt = 0
    ∧ (List.replicate 4 (⟨5, 100, 0, 2000⟩ : TickInput)).length = 2 ^ refcfg.offsShift
    ∧ (List.replicate 3 (⟨5, 100, 0, 2000⟩ : TickInput)).length < 2 ^ refcfg.offsShift := by decide
theorem witness_CalibratedTickFiltersTheSample : (raise .offsDone base).flags.offsDone = true := by decide
/-- A command from a loop state, which changes the control state. -/
theorem witness_EveryControlStateChange :
    exec .cmdCtrlFault (running 2 1) = .next (ctrlFault (running 2 1)) ∧ (running 2 1).ident.active = false := ⟨rfl, rfl⟩
/-- Into FAULT by the command, by the reserved mode and from an unknown state. -/
theorem witness_FaultIsEnteredInFiveWays :
    (exec .cmdCtrlFault (running 2 1) = .next (ctrlFault (running 2 1)) ∧ (running 2 1).ctrlState ≠ stFault
      ∧ (ctrlFault (running 2 1)).ctrlState = stFault)
    ∧ (ctrlStep refcfg (running 1 0xD)).ctrlState = stFault ∧ (ctrlStep refcfg (running 6 0)).ctrlState = stFault := by
  refine ⟨⟨rfl, by decide, rfl⟩, by decide, by decide⟩
/-- A tick in FAULT, and an exit. -/
theorem witness_FaultIsTerminal :
    ((running 5 1).ctrlState = stFault ∧ (running 5 1).ident.active = false)
    ∧ (exec .cmdCtrlReset (running 5 1) = .next (ctrlReset (running 5 1))
      ∧ (ctrlReset (running 5 1)).ctrlState ≠ stFault) := by
  refine ⟨by decide, rfl, by decide⟩
/-- The three clauses, and the last state below FAULT. -/
theorem witness_StopInitAndLoopTicks :
    ((running 4 0).ident.active = false ∧ (running 4 0).ctrlState.toNat < 5 ∧ runBit (running 4 0) = false)
    ∧ (runBit (running 0 1) = true ∧ (running 0 1).ctrlState = stInit)
    ∧ (runBit (running 1 0xD) = true ∧ (running 1 0xD).ctrlState = stLoop ∧ modeField (running 1 0xD) = 3) := by decide
theorem witness_OpenLoopTickDrivesTheDuty :
    (running 2 3).ident.active = false ∧ (running 2 3).ctrlState = stOpenLoop ∧ runBit (running 2 3) = true := by decide
theorem witness_SpeedLoopTickRunsTheSpeedRegulator :
    (running 3 5).ident.active = false ∧ (running 3 5).ctrlState = stSpeedLoop ∧ runBit (running 3 5) = true := by decide
theorem witness_CurrentLoopTickRunsTheCurrentRegulator :
    (running 4 9).ident.active = false ∧ (running 4 9).ctrlState = stCurrentLoop ∧ runBit (running 4 9) = true := by decide
/-- The first and the last valid sector, and the two illegal ones. -/
theorem witness_OverrideDispatchMapsTheSector :
    ((1#3).toNat = (1 : Fin 7).val ∧ 1 ≤ (1 : Fin 7).val) ∧ ((6#3).toNat = (6 : Fin 7).val ∧ 1 ≤ (6 : Fin 7).val)
    ∧ (0#3 = 0 ∨ 0#3 = 7) ∧ (7#3 = 0 ∨ 7#3 = 7) := by decide
/-- Different and equal speed limits. -/
theorem witness_TargetsStayInTheirRanges :
    cfgCheck refcfg = false ∧ refcfg.minSpeed.toInt < refcfg.maxSpeed.toInt
    ∧ cfgCheck { refcfg with minSpeed := 3500 } = false
    ∧ 0 ≤ ({ base with latch.ctrlIn := 32767 } : State).latch.ctrlIn.toInt := by decide
/-- The saturating row of P3. -/
theorem witness_PiUpdateFollowsTheFiveSteps :
    let b := { bankP3 0 0 with ref := 3000 }
    3000 = sat16 (b.ref.toInt - b.meas.toInt)
    ∧ 375 = clamp (b.integ.toInt + qmul 3000 b.ki.toInt + qmul b.exc.toInt b.kc.toInt) b.outMin.toInt b.outMax.toInt
    ∧ 1875 = qmul 3000 b.kp.toInt + 375 ∧ 1000 = clamp 1875 b.outMin.toInt b.outMax.toInt := by decide
theorem witness_PiUpdateStaysWithinItsBounds : (bankP3 0 0).outMin.toInt ≤ (bankP3 0 0).outMax.toInt := by decide
/-- At the upper bound. -/
theorem witness_PiHoldsAtZeroError :
    let b := bankP3 1000 0
    b.ref = b.meas ∧ b.exc = 0 ∧ b.outMin.toInt ≤ b.integ.toInt ∧ b.integ.toInt ≤ b.outMax.toInt := by decide
/-- The first and the last vector. -/
theorem witness_IdentifierTickDrivesAndReads :
    ((identifying 0 0).ident.active = true ∧ (identifying 0 0).ident.vec.toNat = (0 : Fin 6).val)
    ∧ ((identifying 5 3).ident.active = true ∧ (identifying 5 3).ident.vec.toNat = (5 : Fin 6).val) := by decide
theorem witness_FinishedIdentifierIsFrozen :
    (identifying 6 0).ident.active = true ∧ (identifying 6 0).ident.vec.toNat ≥ 6 := by decide
theorem witness_IdentificationTakesSixIntervals :
    refcfg.idAbortOnFail = false ∧ 1 ≤ refcfg.idInterval.toNat ∧ (identifying 0 0).ident.active = true
    ∧ (identifying 0 0).ident.vec = 0 ∧ (identifying 0 0).ident.icnt = 0 ∧ (identifying 0 0).flags.idDone = false
    ∧ [(⟨5, 0, 0, 2000⟩ : TickInput)] ≠ [] := by decide
/-- A write that clears a set flag, a tick that keeps one, and the states of the other clauses. -/
theorem witness_FlagsAreSticky :
    (exec (.wrStatus 0x0083) (raise .hallFail base) = .next (writeStatus 0x0083 (raise .hallFail base))
      ∧ (raise .hallFail base).flags.hallFail = true)
    ∧ base.ctrlState.toNat < 5 ∧ exec .cmdInit base = .next (initBody Config.cfg base) := ⟨⟨rfl, rfl⟩, by decide, rfl⟩
/-- Two states that differ in a reported flag. -/
theorem witness_ReportFlagsNeverSteer :
    raise .hallFail base ≠ base ∧ withoutReportFlags (raise .hallFail base) = withoutReportFlags base
    ∧ exec (.tclk 5) base = .next base ∧ exec (.tclk 5) (raise .hallFail base) = .next (raise .hallFail base)
    ∧ Instr.tclk 5 ≠ .rd 0x02 := by
  refine ⟨by decide, by decide, rfl, rfl, by decide⟩
/-- A driving state of REFCFG is gated, and one more step is taken from it. -/
theorem witness_EveryStepKeepsThePwmGated :
    let s := (enablePwm (running 2 1)).withFetchWord 64 0x2000000000000005
    PwmGated s ∧ s.out.pwmEn = true ∧ step s = .next (tclk 5 (enablePwm (running 2 1))) :=
  ⟨⟨fun _ => .inl (by decide), fun h => absurd h (by decide)⟩, rfl, rfl⟩

/-- The instance of `exec` after reset and a write of `CTRL`, with a timer event presented: its configuration is opaque, so the
three invariants that name it are shown field by field. -/
def waiting : State := ({ State.reset with ctrl := 1 } : State).withFetchWord 64 0x2000000000000005

theorem waiting_steps : step waiting = .next { State.reset with ctrl := 1 } := rfl

theorem bankInRange_ofConfig (k : PiConfig) : BankInRange (PiBank.ofConfig k) := fun _ => .inr rfl

theorem witness_EveryStepKeepsTheRanges : InRange Config.cfg waiting where
  ctrlIn := by decide
  speed := by decide
  inSpeed := by decide
  sector := by decide
  vec := by decide
  chg := rfl
  filter := fun _ => ⟨(Nat.zero_div _).symm, Nat.zero_le _⟩
  offset := fun _ => ⟨Nat.zero_le _, ⟨fun h => absurd h (by decide), fun h => absurd h (Nat.two_pow_pos _).ne⟩,
    by decide, by decide⟩
  icnt := fun h => h
  duty := fun h => ⟨le_refl _, h⟩
  tgtDuty := by decide
  idDuty := by decide
  pi0 := bankInRange_ofConfig _
  pi1 := bankInRange_ofConfig _
  pi2 := bankInRange_ofConfig _

theorem witness_EveryStepHoldsADefectiveInstance : DefectHeld Config.cfg waiting where
  flag := rfl
  held := fun h => ⟨if_pos h, rfl, rfl⟩

theorem witness_EveryStepKeepsTheBookkeeping : Bookkeeping Config.cfg waiting where
  pi0 := ⟨rfl, rfl, rfl, rfl, rfl⟩
  pi1 := ⟨rfl, rfl, rfl, rfl, rfl⟩
  pi2 := ⟨rfl, rfl, rfl, rfl, rfl⟩
  failures := by decide
  uncalibrated := fun _ => ⟨rfl, rfl, rfl⟩
  rowZero := fun ch => by match ch with | 0 => rfl | 1 => rfl | 2 => rfl

end Sys2Proof.Tests
end

section
/-! SUPPORT. The events still to come: what a step takes off them, and that no operation of an event touches them. After
it the statements on the step that these settle. -/

namespace Sys2Proof.Machine

/-! ## The step -/

/-- With an event presented, the event input answers it and drops it from the inbox. -/
theorem takeEvent_of_inbox_cons {s : State} {w : EventWord} {rest : List EventWord} (h : s.inbox = w :: rest) :
    takeEvent s = some (w, { s with inbox := rest }) := by simp only [takeEvent, h]

/-- A step applies the event the event input answers. -/
theorem step_of_takeEvent_some {s t : State} {w : EventWord} (h : takeEvent s = some (w, t)) :
    step s = exec (decode w) t := by simp only [step, h]

/-! ## The events to come under each operation -/

@[simp] theorem initBody_inbox (c : Config) (s : State) : (initBody c s).inbox = s.inbox := by rw [initBody_eq]

@[simp] theorem resetOp_inbox (c : Config) (s : State) : (resetOp c s).inbox = s.inbox := by rw [resetOp_eq]

@[simp] theorem tick_inbox (c : Config) (code : BitVec 3) (ibus pot per : Word) (s : State) :
    (tick c code ibus pot per s).inbox = s.inbox := by
  cases h : s.ident.active with
  | false => rw [tick_inactive c code ibus pot per s h, ctrlStep_inbox, tickFront_inbox]
  | true => rw [tick_active c code ibus pot per s h, idStep_inbox, tickFront_inbox]

@[simp] theorem tclk_inbox (n : DWord) (s : State) : (tclk n s).inbox = s.inbox := by
  unfold tclk
  split <;> rfl

@[simp] theorem idStart_inbox (c : Config) (s : State) : (idStart c s).inbox = s.inbox := by
  obtain ⟨-, refused⟩ | ⟨-, started⟩ := idStart_cases c s
  · rw [refused, raise_inbox]
  · rw [started, parkInInit_inbox]

@[simp] theorem idHandover_inbox (s : State) : (idHandover s).inbox = s.inbox := by
  obtain ⟨-, refused⟩ | ⟨-, ended⟩ := idHandover_cases s
  · rw [refused, raise_inbox]
  · rw [ended]

@[simp] theorem tblLoadId_inbox (s : State) : (tblLoadId s).inbox = s.inbox := by
  obtain ⟨-, refused⟩ | ⟨-, loaded⟩ := tblLoadId_cases s
  · rw [refused, raise_inbox]
  · rw [loaded]

@[simp] theorem ctrlReset_inbox (s : State) : (ctrlReset s).inbox = s.inbox := by
  obtain ⟨-, refused⟩ | ⟨-, -, parked⟩ := ctrlReset_cases s
  · rw [refused, raise_inbox]
  · rw [parked, parkInInit_inbox]

@[simp] theorem writeRunTable_inbox (addr : BitVec 8) (v : Word) (s : State) :
    (writeRunTable addr v s).inbox = s.inbox := by
  unfold writeRunTable
  split <;> rfl

/-! ## The obligations -/

/-- Settles O6. -/
theorem stepAppliesThePresentedEvent : Obligations.StepAppliesThePresentedEvent := by
  intro s w rest i presented decoded _
  rw [step_of_takeEvent_some (takeEvent_of_inbox_cons presented), decoded]

/-- Settles O8, by cases on the operation: each arm of `exec` answers the state its operation computes, and that
operation keeps the events to come. -/
theorem everyEventCompletes : Obligations.EveryEventCompletes := by
  intro i s
  cases i with
  | nopev => exact ⟨s, rfl, rfl⟩
  | reset => exact ⟨_, rfl, resetOp_inbox _ s⟩
  | tick code ibus pot per => exact ⟨_, rfl, tick_inbox _ code ibus pot per s⟩
  | tclk n => exact ⟨_, rfl, tclk_inbox n s⟩
  | cmdNop => exact ⟨s, rfl, rfl⟩
  | cmdInit => exact ⟨_, rfl, initBody_inbox _ s⟩
  | cmdIdStart => exact ⟨_, rfl, idStart_inbox _ s⟩
  | cmdIdHandover => exact ⟨_, rfl, idHandover_inbox s⟩
  | cmdTblLoadConst => exact ⟨_, rfl, tblLoadConst_inbox _ s⟩
  | cmdTblLoadId => exact ⟨_, rfl, tblLoadId_inbox s⟩
  | cmdCtrlReset => exact ⟨_, rfl, ctrlReset_inbox s⟩
  | cmdCtrlFault => exact ⟨_, rfl, ctrlFault_inbox s⟩
  | wrCtrl data => exact ⟨_, rfl, writeCtrl_inbox data s⟩
  | wrStatus data => exact ⟨_, rfl, writeStatus_inbox data s⟩
  | wrTbl8x lo data => exact ⟨_, rfl, writeRunTable_inbox _ data s⟩
  | wrTbl9x lo data => exact ⟨_, rfl, writeRunTable_inbox _ data s⟩
  | wrTbl94 data => exact ⟨_, rfl, writeRunTable_inbox _ data s⟩
  | rd addr => exact ⟨_, rfl, readToPort_inbox addr s⟩
  | cmdRsvd | wrRo | rsvd => exact ⟨_, rfl, raise_inbox .badEv s⟩

end Sys2Proof.Machine
end

section
/-! SUPPORT. The step as a function: the state an event leaves, and the package by which a property that every event keeps is
kept by every step. After it the statements on reset and on what a tick writes. -/

namespace Sys2Proof.Machine

/-! ## The state an event leaves -/

/-- The operation of an event, as a function of the state. `exec_eq_next` ties it to `exec`. -/
def eventEffect (c : Config) : Instr → State → State
  | .nopev | .cmdNop => id
  | .reset => resetOp c
  | .tick code ibus pot per => tick c code ibus pot per
  | .tclk n => tclk n
  | .cmdInit => initBody c
  | .cmdIdStart => idStart c
  | .cmdIdHandover => idHandover
  | .cmdTblLoadConst => tblLoadConst c
  | .cmdTblLoadId => tblLoadId
  | .cmdCtrlReset => ctrlReset
  | .cmdCtrlFault => ctrlFault
  | .wrCtrl data => writeCtrl data
  | .wrStatus data => writeStatus data
  | .wrTbl8x lo data => writeRunTable (0x8#4 ++ lo) data
  | .wrTbl9x lo data => writeRunTable (0x24#6 ++ lo) data
  | .wrTbl94 data => writeRunTable 0x94 data
  | .rd addr => readToPort addr
  | .cmdRsvd _ | .wrRo _ _ | .rsvd _ => raise .badEv

/-- Every event runs to its end (rule R185) and leaves the state of its operation. -/
theorem exec_eq_next (i : Instr) (s : State) : exec i s = .next (eventEffect Config.cfg i s) := by cases i <;> rfl

theorem eq_eventEffect_of_exec {i : Instr} {s t : State} (h : exec i s = .next t) : t = eventEffect Config.cfg i s := by
  rw [exec_eq_next] at h
  exact (Host.Outcome.next.inj h).symm

/-- A step with no event presented leaves the state; one with an event takes it from the inbox and applies it. -/
theorem step_cases {s t : State} (h : step s = .next t) :
    t = s ∨ ∃ i rest, t = eventEffect Config.cfg i { s with inbox := rest } := by
  cases presented : s.inbox with
  | nil => simp only [step, takeEvent, presented, Host.Outcome.next.injEq] at h; exact .inl h.symm
  | cons w rest =>
    rw [step_of_takeEvent_some (takeEvent_of_inbox_cons presented)] at h
    exact .inr ⟨decode w, rest, eq_eventEffect_of_exec h⟩

/-- The induction step of an invariant: what does not depend on the events to come and is kept by every event is kept by
every step. -/
theorem step_keeps {P : State → Prop} (inbox : ∀ (s : State) (rest : List EventWord), P s → P { s with inbox := rest })
    (event : ∀ (i : Instr) (s : State), P s → P (eventEffect Config.cfg i s)) :
    ∀ s t : State, P s → step s = .next t → P t := by
  intro s t hs h
  obtain rfl | ⟨i, rest, rfl⟩ := step_cases h
  · exact hs
  · exact event i _ (inbox s rest hs)

/-! ## What an event can write -/

/-- The state without its switches: the control word and state, the flags other than `ID_FAIL`, `OFFS_DONE` and `CFGERR`,
the outputs other than the duty, the timer, `ID_ACTIVE` and the run table put to 0. -/
def withoutSwitches (s : State) : State :=
  { s with
    ctrl := 0, ctrlState := 0
    flags := { s.flags with hallFail := false, tmrErr := false, idDone := false, badEv := false }
    out := { s.out with pwmOvr := Vector.replicate 3 0, pwmEn := false, rdData := 0 }
    hall := { s.hall with tmr := 0 }
    ident := { s.ident with active := false }
    runTable := Vector.replicate 7 (Vector.replicate 3 0) }

/-- From `s` to `t` at most switches change: every number of a unit is kept. -/
def UnitsKept (s t : State) : Prop := withoutSwitches t = withoutSwitches s

theorem UnitsKept.eq {s t : State} (h : UnitsKept s t) : withoutSwitches t = withoutSwitches s := h

theorem UnitsKept.latch {s t : State} (h : UnitsKept s t) : t.latch = s.latch := by
  have latches : (withoutSwitches t).latch = (withoutSwitches s).latch := by rw [h.eq]
  exact latches

theorem unitsKept_refl (s : State) : UnitsKept s s := rfl

theorem unitsKept_badEv (s : State) : UnitsKept s (raise .badEv s) := rfl

theorem unitsKept_enterFault (s : State) : UnitsKept s (enterFault s) := rfl

theorem unitsKept_parkInInit (s : State) : UnitsKept s (parkInInit s) := rfl

theorem unitsKept_ovrDispatch (c : Config) (cs : BitVec 3) (s : State) : UnitsKept s (ovrDispatch c cs s) := rfl

theorem unitsKept_enablePwm (s : State) : UnitsKept s (enablePwm s) := rfl

theorem unitsKept_armFault (s : State) : UnitsKept s (armFault s) := rfl

theorem unitsKept_armLoop (s : State) : UnitsKept s (armLoop s) := by
  rw [armLoop_eq]; rfl

theorem unitsKept_idComplete (s : State) : UnitsKept s (idComplete s) := rfl

theorem unitsKept_tclk (n : DWord) (s : State) : UnitsKept s (tclk n s) := by
  unfold tclk
  split
  · rfl
  · exact unitsKept_refl s

theorem unitsKept_idHandover (s : State) : UnitsKept s (idHandover s) := by
  obtain ⟨-, refused⟩ | ⟨-, ended⟩ := idHandover_cases s
  · exact refused ▸ unitsKept_badEv s
  · exact ended ▸ rfl

theorem unitsKept_tblLoadId (s : State) : UnitsKept s (tblLoadId s) := by
  obtain ⟨-, refused⟩ | ⟨-, loaded⟩ := tblLoadId_cases s
  · exact refused ▸ unitsKept_badEv s
  · exact loaded ▸ rfl

theorem unitsKept_ctrlReset (s : State) : UnitsKept s (ctrlReset s) := by
  obtain ⟨-, refused⟩ | ⟨-, -, parked⟩ := ctrlReset_cases s
  · exact refused ▸ unitsKept_badEv s
  · exact parked ▸ unitsKept_parkInInit s

theorem unitsKept_writeRunTable (a : BitVec 8) (v : Word) (s : State) : UnitsKept s (writeRunTable a v s) := by
  unfold writeRunTable
  split
  · rfl
  · exact unitsKept_badEv s

/-- An event is a tick, an initialisation or `ID_START`, or it keeps every number of the units. -/
theorem eventEffect_cases (c : Config) (i : Instr) (s : State) :
    (∃ code ibus pot per, i = .tick code ibus pot per)
    ∨ (i = .cmdInit ∨ i = .reset) ∧ (∃ s', eventEffect c i s = initBody c s')
    ∨ i = .cmdIdStart
    ∨ ¬(i = .cmdInit ∨ i = .reset) ∧ UnitsKept s (eventEffect c i s) := by
  cases i with
  | tick code ibus pot per => exact .inl ⟨_, _, _, _, rfl⟩
  | cmdInit => exact .inr (.inl ⟨.inl rfl, s, rfl⟩)
  | reset => exact .inr (.inl ⟨.inr rfl, _, rfl⟩)
  | cmdIdStart => exact .inr (.inr (.inl rfl))
  | nopev | cmdNop => exact .inr (.inr (.inr ⟨by simp, unitsKept_refl s⟩))
  | tclk n => exact .inr (.inr (.inr ⟨by simp, unitsKept_tclk n s⟩))
  | cmdIdHandover => exact .inr (.inr (.inr ⟨by simp, unitsKept_idHandover s⟩))
  | cmdTblLoadId => exact .inr (.inr (.inr ⟨by simp, unitsKept_tblLoadId s⟩))
  | cmdCtrlReset => exact .inr (.inr (.inr ⟨by simp, unitsKept_ctrlReset s⟩))
  | wrTbl8x lo data => exact .inr (.inr (.inr ⟨by simp, unitsKept_writeRunTable (0x8#4 ++ lo) data s⟩))
  | wrTbl9x lo data => exact .inr (.inr (.inr ⟨by simp, unitsKept_writeRunTable (0x24#6 ++ lo) data s⟩))
  | wrTbl94 data => exact .inr (.inr (.inr ⟨by simp, unitsKept_writeRunTable 0x94 data s⟩))
  | cmdRsvd | wrRo | rsvd => exact .inr (.inr (.inr ⟨by simp, unitsKept_badEv s⟩))
  | cmdTblLoadConst | cmdCtrlFault | wrCtrl | wrStatus | rd => exact .inr (.inr (.inr ⟨by simp, rfl⟩))

/-! ## The latches -/

/-- Only a tick, `INIT` and `RESET` write a latch. -/
theorem eventEffect_latch (c : Config) (i : Instr) (s : State) (h : ∀ code ibus pot per, i ≠ .tick code ibus pot per) :
    (eventEffect c i s).latch = if i = .cmdInit ∨ i = .reset then ⟨0, 0, 0⟩ else s.latch := by
  obtain ⟨code, ibus, pot, per, tick⟩ | ⟨init, s', e⟩ | rfl | ⟨notInit, kept⟩ := eventEffect_cases c i s
  · exact absurd tick (h code ibus pot per)
  · rw [if_pos init, e, initBody_eq]; rfl
  · obtain ⟨-, e⟩ | ⟨-, e⟩ := idStart_cases c s <;> simp [eventEffect, e]
  · rw [if_neg notInit, kept.latch]

@[simp] theorem tick_latch (c : Config) (code : BitVec 3) (ibus pot per : Word) (s : State) :
    (tick c code ibus pot per s).latch = ⟨ibus, ctrlInOf pot, per⟩ := by
  cases h : s.ident.active with
  | false => rw [tick_inactive c code ibus pot per s h, ctrlStep_latch, tickFront_latch]
  | true => rw [tick_active c code ibus pot per s h, idStep_latch, tickFront_latch]

/-- Settles O29. -/
theorem tickLatchesItsFields : Obligations.TickLatchesItsFields := by
  refine ⟨fun code ibus pot per s => ⟨_, exec_eq_next .., ?_⟩, fun i s t h notTick => ?_⟩
  · simp [eventEffect, ctrlInOf_toInt]
  · rw [eq_eventEffect_of_exec h, eventEffect_latch _ _ _ notTick]

/-! ## What a tick never writes -/

/-- The front of a tick keeps the timer or zeroes it. -/
theorem tickFront_hall_tmr (c : Config) (code : BitVec 3) (ibus pot per : Word) (s : State) :
    (tickFront c code ibus pot per s).hall.tmr = s.hall.tmr ∨ (tickFront c code ibus pot per s).hall.tmr = 0 := by
  rw [tickFront_hall]
  exact hallHandler_hall_tmr c code (latchInputs ibus pot per s)

/-- Settles O28: the front of a tick writes none of these elements but the timer, and the unit that runs last none at
all. -/
theorem tickLeavesTheSlowContextState : Obligations.TickLeavesTheSlowContextState := by
  intro code ibus pot per s
  refine ⟨_, exec_eq_next .., ?_⟩
  have timer := tickFront_hall_tmr Config.cfg code ibus pot per s
  cases h : s.ident.active with
  | false => simpa [eventEffect, tick_inactive _ code ibus pot per s h, h] using timer
  | true => simpa [eventEffect, tick_active _ code ibus pot per s h, h] using timer

/-! ## Reset -/

/-- `INIT_BODY` leaves the table of rule R28. -/
theorem resetTable_initBody (c : Config) (s : State) : ResetTable c (initBody c s) := by
  rw [initBody_eq]
  exact {
    ctrlState := rfl
    flags := ⟨rfl, rfl, rfl, rfl, rfl, rfl, rfl⟩
    status := by
      cases defective : cfgCheck c <;>
        simp [memRead, mappedWord, controlWord, statusWord, statusByte, stopped, State.resetWith, defective]
    gains := ⟨⟨rfl, rfl, rfl, rfl, rfl⟩, ⟨rfl, rfl, rfl, rfl, rfl⟩, ⟨rfl, rfl, rfl, rfl, rfl⟩⟩
    banks := ⟨⟨rfl, rfl, rfl, rfl, rfl⟩, ⟨rfl, rfl, rfl, rfl, rfl⟩, ⟨rfl, rfl, rfl, rfl, rfl⟩⟩
    latches := ⟨rfl, rfl, rfl⟩
    inputs := ⟨rfl, rfl, rfl, rfl⟩
    targets := ⟨rfl, rfl, rfl, rfl⟩
    outputs := ⟨rfl, rfl, fun ch => by simp [State.resetWith, offRow]⟩
    hall := ⟨rfl, rfl, rfl, rfl, rfl, rfl, rfl, rfl, rfl⟩
    speed := ⟨rfl, rfl, rfl⟩
    current := ⟨rfl, rfl, rfl, rfl, rfl, rfl⟩
    identifier := ⟨rfl, rfl, rfl, rfl, rfl, rfl, rfl⟩
    idMap := fun r ch => by simp [State.resetWith, offTable, offRow]
    runTableOff := fun ch => by simp [State.resetWith, constTable, offRow]
    runTable := fun r ch => by fin_cases r <;> rfl }

/-- Settles O9. -/
theorem resetAndInitLeaveTheResetTable : Obligations.ResetAndInitLeaveTheResetTable := by
  intro s
  refine ⟨⟨_, exec_eq_next .., ?_, ?_, resetTable_initBody _ _⟩, ⟨_, exec_eq_next .., ?_, ?_, resetTable_initBody _ s⟩⟩
  all_goals simp [eventEffect, resetOp_eq, initBody_eq, State.resetWith]

/-- Settles O10. -/
theorem resetEventGivesTheResetState : Obligations.ResetEventGivesTheResetState := by
  intro s
  rw [exec_eq_next, eventEffect, resetOp_eq, State.reset]

end Sys2Proof.Machine
end

section
/-! SUPPORT. The ranges of rule R29: what each shared operation keeps of them, one lemma per operation. After it the statement
on every step. An operation that writes no ranged element carries the record of its premise over, field by field. -/

namespace Sys2Proof.Machine

/-! ## The three PI banks -/

theorem bankInRange_of_cleared {b : PiBank} (h : piClear b = b) : BankInRange b := fun _ => .inr h

theorem bankInRange_piClear (b : PiBank) : BankInRange (piClear b) := bankInRange_of_cleared rfl

/-- An update clamps its integrator and its output (rule R103). -/
theorem bankInRange_piUpdate (b : PiBank) : BankInRange (piUpdate b) := by
  intro ordered
  rw [piUpdate_integ, piUpdate_out]
  exact .inl ⟨clamp_range ordered, clamp_range ordered⟩

/-! ## The speed filter -/

/-- The accumulator less its average leaves room for one period (rule R117). -/
theorem filter_room {k a p : Nat} (hk : 0 < k) (ha : a < 2 ^ 32 * k) (hp : p < 2 ^ 32) :
    a - a / k + p < 2 ^ 32 * k := by
  obtain ⟨m, rfl⟩ : ∃ m, k = m + 1 := ⟨k - 1, by omega⟩
  have quotient : a / (m + 1) < 2 ^ 32 := Nat.div_lt_of_lt_mul (by linarith)
  have product : m * (a / (m + 1)) ≤ m * (2 ^ 32 - 1) := Nat.mul_le_mul_left m (by omega)
  have remainder := Nat.mod_lt a hk
  have split := Nat.div_add_mod a (m + 1)
  rw [Nat.add_mul] at split
  omega

theorem maStep_spd_maAcc (c : Config) (s : State) : (maStep c s).spd.maAcc
    = fitUnsigned .maAcc 48 ((s.spd.maAcc.toNat : Int) - s.spd.maAvg.toNat + s.hall.period.toNat) := by
  simp only [maStep]

theorem maStep_spd_maAvg (c : Config) (s : State) :
    (maStep c s).spd.maAvg = fitUnsigned .maAvg 32 (asr (maStep c s).spd.maAcc.toNat c.maShift) := by
  simp only [maStep]

/-- In range the filter's two writes are exact (rule R115). -/
theorem maStep_exact {c : Config} {s : State} (shift : c.maShift ≤ 15) (h : FilterInRange c s.spd) :
    (maStep c s).spd.maAcc.toNat = s.spd.maAcc.toNat - s.spd.maAvg.toNat + s.hall.period.toNat
    ∧ (maStep c s).spd.maAvg.toNat = (maStep c s).spd.maAcc.toNat / 2 ^ c.maShift
    ∧ (maStep c s).spd.maAcc.toNat < 2 ^ 32 * 2 ^ c.maShift := by
  obtain ⟨average, bound⟩ := h shift
  rw [pow_add] at bound
  have positive : 0 < 2 ^ c.maShift := Nat.two_pow_pos _
  have small : 2 ^ c.maShift ≤ 2 ^ 15 := Nat.pow_le_pow_right (by omega) shift
  have room := filter_room positive (a := s.spd.maAcc.toNat) (by omega) s.hall.period.isLt
  have below : s.spd.maAvg.toNat ≤ s.spd.maAcc.toNat := average ▸ Nat.div_le_self ..
  rw [← average] at room
  have acc : ((maStep c s).spd.maAcc.toNat : Int) = s.spd.maAcc.toNat - s.spd.maAvg.toNat + s.hall.period.toNat := by
    rw [maStep_spd_maAcc]
    exact fitUnsigned_toNat .maAcc (by omega) (by omega)
  have accLt : (maStep c s).spd.maAcc.toNat < 2 ^ 32 * 2 ^ c.maShift := by omega
  have shifted : asr (maStep c s).spd.maAcc.toNat c.maShift
      = ((maStep c s).spd.maAcc.toNat / 2 ^ c.maShift : Nat) := by rw [asr_def]; norm_cast
  have shiftedLt : (maStep c s).spd.maAcc.toNat / 2 ^ c.maShift < 2 ^ 32 :=
    Nat.div_lt_of_lt_mul (by rwa [Nat.mul_comm])
  have avg : ((maStep c s).spd.maAvg.toNat : Int) = ((maStep c s).spd.maAcc.toNat / 2 ^ c.maShift : Nat) := by
    rw [maStep_spd_maAvg, shifted]
    exact fitUnsigned_toNat .maAvg (Int.natCast_nonneg _) (by exact_mod_cast shiftedLt)
  exact ⟨by omega, by omega, accLt⟩

theorem speedCalc_spd_maAcc (c : Config) (s : State) : (speedCalc c s).spd.maAcc = (maStep c s).spd.maAcc := by
  simp only [speedCalc]

theorem speedCalc_spd_maAvg (c : Config) (s : State) : (speedCalc c s).spd.maAvg = (maStep c s).spd.maAvg := by
  simp only [speedCalc]

theorem filterInRange_speedCalc {c : Config} {s : State} (h : FilterInRange c s.spd) :
    FilterInRange c (speedCalc c s).spd := by
  intro shift
  obtain ⟨-, average, bound⟩ := maStep_exact shift h
  rw [speedCalc_spd_maAcc, speedCalc_spd_maAvg, pow_add]
  exact ⟨average, by omega⟩

/-- The speed is 0, saturated at 32767, or held (rule R115). -/
theorem speedOf_nonneg (c : Config) (s : State) (h : 0 ≤ s.spd.speed.toInt) : 0 ≤ (speedOf c s).toInt := by
  unfold speedOf
  split
  · decide
  · split
    · rw [BitVec.toInt_eq_toNat_of_lt (by rw [BitVec.toNat_ofNat]; omega)]; omega
    · exact h

/-! ## The offset calibration -/

theorem curOffs_cur_offsAcc (c : Config) (s : State) :
    (curOffs c s).cur.offsAcc = fitSigned .offsAcc 32 (s.cur.offsAcc.toInt + s.latch.ibusRaw.toInt) := by
  rw [curOffs_eq]

theorem curOffs_cur_offsCnt (c : Config) (s : State) :
    (curOffs c s).cur.offsCnt = fitUnsigned .offsCnt 16 ((s.cur.offsCnt.toNat : Int) + 1) := by
  rw [curOffs_eq]

theorem curOffs_flags_offsDone (c : Config) (s : State) : (curOffs c s).flags.offsDone = true
    ↔ s.flags.offsDone = true ∨ (curOffs c s).cur.offsCnt.toNat = offsSamples c := by
  simp only [curOffs_eq, Bool.or_eq_true, decide_eq_true_eq]

/-- One more int16 sample keeps the sum within the bounds of the count, and the two fit their elements (rule R125). -/
theorem offsetInRange_curStep {c : Config} {s : State} (h : OffsetInRange c s) : OffsetInRange c (curStep c s) := by
  intro shift
  obtain ⟨countLe, done, low, high⟩ := h shift
  cases d : s.flags.offsDone with
  | true =>
    rw [curStep_calibrated c s d]
    simp only [curSample_cur_offsCnt, curSample_cur_offsAcc, curSample_flags]
    exact ⟨countLe, done, low, high⟩
  | false =>
    have notYet : s.cur.offsCnt.toNat ≠ 2 ^ c.offsShift := fun e => by simp [done.2 e] at d
    have small : 2 ^ c.offsShift ≤ 2 ^ 15 := Nat.pow_le_pow_right (by omega) shift
    have sample := toInt16_range s.latch.ibusRaw
    have count : ((fitUnsigned .offsCnt 16 ((s.cur.offsCnt.toNat : Int) + 1)).toNat : Int) = s.cur.offsCnt.toNat + 1 :=
      fitUnsigned_toNat .offsCnt (by omega) (by omega)
    have sum : (fitSigned .offsAcc 32 (s.cur.offsAcc.toInt + s.latch.ibusRaw.toInt)).toInt
        = s.cur.offsAcc.toInt + s.latch.ibusRaw.toInt := fitSigned_toInt32 .offsAcc (by omega) (by omega)
    rw [← curOffs_cur_offsCnt c] at count
    rw [← curOffs_cur_offsAcc c] at sum
    rw [curStep_uncalibrated c s d, curOffs_flags_offsDone, d, offsSamples]
    exact ⟨by omega, by simp, by omega, by omega⟩

/-! ## The duties -/

theorem zero_duty_range : -65535 ≤ (0 : DWord).toInt ∧ (0 : DWord).toInt ≤ 65533 := by decide

/-- A duty register written with a clamped value lies within the limits (rule R132). -/
theorem clampedDuty_range {d lo hi : Word} {v : Int} (written : (d.toNat : Int) = clamp v lo.toNat hi.toNat)
    (ordered : lo.toNat ≤ hi.toNat) : lo.toNat ≤ d.toNat ∧ d.toNat ≤ hi.toNat := by
  have range := clamp_range (v := v) (lo := lo.toNat) (hi := hi.toNat) (by omega)
  omega

/-- A duty is an int16 fraction of a uint16 period (rules R18 and R23). -/
theorem duty_range (x per : Word) : -65535 ≤ scale15 x.toInt per.toNat ∧ scale15 x.toInt per.toNat ≤ 65533 := by
  have x16 := toInt16_range x
  have per16 := toNat16_range per
  exact scale15_range x16.1 x16.2 (by omega) (by omega)

namespace InRange

variable {c : Config} {s t : State}

/-- No range is about a switch. -/
theorem of_unitsKept (h : InRange c s) (kept : UnitsKept s t) : InRange c t := by
  have units : InRange c (withoutSwitches t) := by
    rw [kept.eq]
    exact { h with }
  exact { units with }

/-! ## The front of a tick -/

theorem latchInputs (h : InRange c s) (ibus pot per : Word) : InRange c (latchInputs ibus pot per s) :=
  { h with ctrlIn := by rw [latchInputs_latch, ctrlInOf_toInt]; exact le_max_right .. }

theorem hallHandler (h : InRange c s) (code : BitVec 3) : InRange c (hallHandler c code s) := by
  obtain ⟨hall, hallFail, tmrErr, e, chg, -, -, -, -, -, sector⟩ := hallHandler_frame c code s
  rw [e]
  refine { h with chg := chg, sector := ?_ }
  obtain kept | ⟨adopted, valid⟩ := sector
  · exact kept ▸ h.sector
  · exact adopted ▸ valid.2

theorem speedCalc (h : InRange c s) : InRange c (speedCalc c s) :=
  { h with
    filter := filterInRange_speedCalc h.filter
    speed := speedOf_nonneg c (maStep c s) h.speed }

theorem curStep (h : InRange c s) : InRange c (curStep c s) := by
  have offset := offsetInRange_curStep h.offset
  obtain ⟨cur, offsDone, e, -⟩ := curStep_frame c s
  rw [e] at offset ⊢
  exact { h with offset := offset }

theorem tickFront (h : InRange c s) (code : BitVec 3) (ibus pot per : Word) :
    InRange c (tickFront c code ibus pot per s) :=
  (((h.latchInputs ibus pot per).hallHandler code).speedCalc).curStep

/-! ## The control machine -/

theorem getInputs (h : InRange c s) (l : Loop) : InRange c (getInputs c l s) := by
  cases l <;> exact { h with inSpeed := h.speed }

theorem ovrDispatch (h : InRange c s) (cs : BitVec 3) : InRange c (ovrDispatch c cs s) :=
  h.of_unitsKept (unitsKept_ovrDispatch c cs s)

theorem enablePwm (h : InRange c s) : InRange c (enablePwm s) := h.of_unitsKept (unitsKept_enablePwm s)

theorem driveDuty (h : InRange c s) (x : Word) : InRange c (driveDuty c x s) :=
  { h with
    tgtDuty := by rw [driveDuty_ctx_tgtDuty_toInt]; exact duty_range x s.latch.pwmPeriod
    duty := clampedDuty_range (driveDuty_out_pwmDuty_toNat c x s) }

theorem with_pi0 (h : InRange c s) {b : PiBank} (bank : BankInRange b) : InRange c { s with pi0 := b } :=
  { h with pi0 := bank }

theorem with_pi1 (h : InRange c s) {b : PiBank} (bank : BankInRange b) : InRange c { s with pi1 := b } :=
  { h with pi1 := bank }

theorem armInit (h : InRange c s) : InRange c (armInit s) :=
  { h with
    inSpeed := le_refl 0
    tgtDuty := zero_duty_range
    pi0 := bankInRange_piClear _
    pi1 := bankInRange_piClear _ }

theorem armOpenLoop (h : InRange c s) : InRange c (armOpenLoop c s) :=
  (((h.getInputs .openLoop).ovrDispatch _).driveDuty _).enablePwm

theorem armSpeedLoop (h : InRange c s) : InRange c (armSpeedLoop c s) :=
  ((((h.getInputs .speedLoop).with_pi0 (bankInRange_piUpdate _)).driveDuty _).ovrDispatch _).enablePwm

theorem armCurrentLoop (h : InRange c s) : InRange c (armCurrentLoop c s) :=
  ((((h.getInputs .currentLoop).with_pi1 (bankInRange_piUpdate _)).driveDuty _).ovrDispatch _).enablePwm

theorem ctrlStep (h : InRange c s) : InRange c (ctrlStep c s) := by
  obtain ⟨-, e⟩ | ⟨-, e⟩ | ⟨-, -, e⟩ | ⟨-, -, e⟩ | ⟨-, -, e⟩ | ⟨-, -, e⟩ | ⟨-, -, e⟩ | ⟨-, -, e⟩ := ctrlStep_cases c s
  all_goals rw [e]
  · exact h.of_unitsKept (unitsKept_enterFault s)
  · exact h.of_unitsKept (unitsKept_armFault s)
  · exact h.of_unitsKept (unitsKept_parkInInit s)
  · exact h.armInit
  · exact h.of_unitsKept (unitsKept_armLoop s)
  · exact h.armOpenLoop
  · exact h.armSpeedLoop
  · exact h.armCurrentLoop

/-! ## The identifier -/

theorem idDrive (h : InRange c s) (v : Fin 6) : InRange c (idDrive c v s) :=
  { h with
    idDuty := by rw [(idDrive_duty c v s).1]; exact duty_range _ s.latch.pwmPeriod
    duty := clampedDuty_range (idDrive_duty c v s).2
    pi2 := bankInRange_piUpdate _ }

theorem idReading (h : InRange c s) (code : BitVec 3) {v : Fin 6} (hv : s.ident.vec.toNat = v.val) :
    InRange c (idReading c code v s) := by
  rw [idReading_eq]
  refine { h with icnt := fun positive => positive, vec := ?_ }
  have next : (s.ident.vec + 1).toNat ≤ 6 := by have := v.isLt; bv_omega
  dsimp only
  split
  · decide
  · exact next

theorem idVector (h : InRange c s) (code : BitVec 3) {v : Fin 6} (hv : s.ident.vec.toNat = v.val) :
    InRange c (idVector c code v s) := by
  by_cases k : s.ident.icnt.toNat + 1 < c.idInterval.toNat
  · rw [idVector_counts c code v s k]
    have next : (s.ident.icnt + 1).toNat < c.idInterval.toNat := by bv_omega
    exact { h.idDrive v with icnt := fun _ => next }
  · rw [idVector_reads c code v s k]
    exact (h.idDrive v).idReading code hv

theorem idStep (h : InRange c s) (code : BitVec 3) : InRange c (idStep c code s) := by
  obtain ⟨-, e⟩ | ⟨v, hv, ⟨-, e⟩ | ⟨-, e⟩⟩ := idStep_cases c code s
  all_goals rw [e]
  · exact h.of_unitsKept (unitsKept_idComplete s)
  · exact (h.idVector code hv).of_unitsKept (unitsKept_idComplete _)
  · exact h.idVector code hv

/-! ## The events -/

theorem tick (h : InRange c s) (code : BitVec 3) (ibus pot per : Word) : InRange c (tick c code ibus pot per s) := by
  cases k : s.ident.active with
  | false => rw [tick_inactive c code ibus pot per s k]; exact (h.tickFront code ibus pot per).ctrlStep
  | true => rw [tick_active c code ibus pot per s k]; exact (h.tickFront code ibus pot per).idStep code

theorem resetWith (c : Config) : InRange c (State.resetWith c) where
  ctrlIn := le_refl 0
  speed := le_refl 0
  inSpeed := le_refl 0
  sector := Nat.zero_le _
  vec := Nat.zero_le _
  chg := rfl
  filter := fun _ => ⟨(Nat.zero_div _).symm, Nat.zero_le _⟩
  offset := fun _ => ⟨Nat.zero_le _, ⟨by simp [State.resetWith], fun full => absurd full (Nat.two_pow_pos _).ne⟩,
    le_refl 0, le_refl 0⟩
  icnt := id
  duty := fun ordered => ⟨le_refl _, ordered⟩
  tgtDuty := zero_duty_range
  idDuty := zero_duty_range
  pi0 := bankInRange_of_cleared rfl
  pi1 := bankInRange_of_cleared rfl
  pi2 := bankInRange_of_cleared rfl

theorem initBody (c : Config) (s : State) : InRange c (initBody c s) := by
  rw [initBody_eq]
  exact { resetWith c with }

theorem idStart (h : InRange c s) : InRange c (idStart c s) := by
  obtain ⟨-, refused⟩ | ⟨-, started⟩ := idStart_cases c s
  · exact refused ▸ h.of_unitsKept (unitsKept_badEv s)
  · rw [started]
    exact { h with vec := Nat.zero_le _, icnt := id, idDuty := zero_duty_range, pi2 := bankInRange_piClear _ }

theorem eventEffect (h : InRange c s) (i : Instr) : InRange c (eventEffect c i s) := by
  obtain ⟨code, ibus, pot, per, rfl⟩ | ⟨-, s', e⟩ | rfl | ⟨-, kept⟩ := eventEffect_cases c i s
  · exact h.tick code ibus pot per
  · exact e ▸ initBody c s'
  · exact h.idStart
  · exact h.of_unitsKept kept

end InRange

/-- Settles O55. -/
theorem everyStepKeepsTheRanges : Obligations.EveryStepKeepsTheRanges :=
  step_keeps (fun _ _ h => { h with }) (fun i _ h => h.eventEffect i)

end Sys2Proof.Machine
end

section
/-! SUPPORT. The bookkeeping between elements: what each shared operation keeps of it, one lemma per operation. After it the
statements on every step and on the state after reset. -/

namespace Sys2Proof.Machine

/-! ## The elements the bookkeeping speaks of -/

/-- A calibration sample leaves the calibrated and the filtered current alone. -/
theorem curOffs_filter (c : Config) (s : State) : (curOffs c s).cur.ibusCal = s.cur.ibusCal
    ∧ (curOffs c s).cur.ibusFilt = s.cur.ibusFilt ∧ (curOffs c s).cur.lpfAcc = s.cur.lpfAcc := by
  simp only [curOffs_eq, and_self]

theorem failCntNext_ne_zero (n : BitVec 3) : failCntNext n ≠ 0 := by
  revert n; decide

theorem offTable_word (c : Config) (r : Fin 7) (ch : Fin 3) : (offTable c)[r][ch] = c.ovrOff := by
  simp [offTable, offRow]

/-- No reading writes row 0 of the map (rule R151). -/
theorem idRecord_rowZero (c : Config) (code : BitVec 3) (v : Fin 6) (t : SectorTable) :
    (idRecord c code v t)[0] = t[0] := by
  simpa using idRecord_row c code v t 0

namespace Bookkeeping

variable {c : Config} {s t : State}

/-- The bookkeeping is about no switch. -/
theorem of_unitsKept (h : Bookkeeping c s) (kept : UnitsKept s t) : Bookkeeping c t := by
  have units : Bookkeeping c (withoutSwitches t) := by
    rw [kept.eq]
    exact { h with }
  exact { units with }

/-! ## The front of a tick -/

theorem hallHandler (h : Bookkeeping c s) (code : BitVec 3) : Bookkeeping c (hallHandler c code s) := by
  obtain ⟨_, _, _, e, -⟩ := hallHandler_frame c code s
  exact e ▸ { h with }

/-- The currents are first written by the sample after the last of the calibration (rules R127 and R128). -/
theorem curStep (h : Bookkeeping c s) : Bookkeeping c (curStep c s) where
  pi0 := by rw [curStep_pi0]; exact h.pi0
  pi1 := by rw [curStep_pi1]; exact h.pi1
  pi2 := by rw [curStep_pi2]; exact h.pi2
  failures := by rw [curStep_flags_idFail, curStep_ident]; exact h.failures
  uncalibrated := fun notDone => by
    cases before : s.flags.offsDone with
    | true => rw [curStep_flags_offsDone c s before] at notDone; contradiction
    | false =>
      obtain ⟨cal, filt, acc⟩ := curOffs_filter c s
      rw [curStep_uncalibrated c s before, cal, filt, acc]
      exact h.uncalibrated before
  rowZero := by rw [curStep_ident]; exact h.rowZero

theorem tickFront (h : Bookkeeping c s) (code : BitVec 3) (ibus pot per : Word) :
    Bookkeeping c (tickFront c code ibus pot per s) := by
  have latched : Bookkeeping c (latchInputs ibus pot per s) := { h with }
  have measured : Bookkeeping c (speedCalc c (Machine.hallHandler c code (latchInputs ibus pot per s))) :=
    { latched.hallHandler code with }
  exact measured.curStep

/-! ## The control machine and the identifier -/

theorem ctrlStep (h : Bookkeeping c s) : Bookkeeping c (ctrlStep c s) where
  pi0 := by simpa [HoldsGains] using h.pi0
  pi1 := by simpa [HoldsGains] using h.pi1
  pi2 := by rw [ctrlStep_pi2]; exact h.pi2
  failures := by rw [ctrlStep_flags, ctrlStep_ident]; exact h.failures
  uncalibrated := by rw [ctrlStep_flags, ctrlStep_cur]; exact h.uncalibrated
  rowZero := by rw [ctrlStep_ident]; exact h.rowZero

theorem idDrive (h : Bookkeeping c s) (v : Fin 6) : Bookkeeping c (idDrive c v s) := { h with }

/-- A failed reading sets the flag and counts, a good one does neither (rule R152). -/
theorem idReading (h : Bookkeeping c s) (code : BitVec 3) (v : Fin 6) : Bookkeeping c (idReading c code v s) := by
  rw [idReading_eq]
  refine { h with failures := ?_, rowZero := ?_ }
  · cases readingFails code s with
    | true => simpa using failCntNext_ne_zero s.ident.failCnt
    | false => simpa using h.failures
  · dsimp only
    rw [idRecord_rowZero]
    exact h.rowZero

theorem idVector (h : Bookkeeping c s) (code : BitVec 3) (v : Fin 6) : Bookkeeping c (idVector c code v s) := by
  by_cases k : s.ident.icnt.toNat + 1 < c.idInterval.toNat
  · rw [idVector_counts c code v s k]
    exact { h.idDrive v with }
  · rw [idVector_reads c code v s k]
    exact (h.idDrive v).idReading code v

theorem idStep (h : Bookkeeping c s) (code : BitVec 3) : Bookkeeping c (idStep c code s) := by
  obtain ⟨-, e⟩ | ⟨v, -, ⟨-, e⟩ | ⟨-, e⟩⟩ := idStep_cases c code s
  all_goals rw [e]
  · exact h.of_unitsKept (unitsKept_idComplete s)
  · exact (h.idVector code v).of_unitsKept (unitsKept_idComplete _)
  · exact h.idVector code v

/-! ## The events -/

theorem tick (h : Bookkeeping c s) (code : BitVec 3) (ibus pot per : Word) :
    Bookkeeping c (tick c code ibus pot per s) := by
  cases k : s.ident.active with
  | false => rw [tick_inactive c code ibus pot per s k]; exact (h.tickFront code ibus pot per).ctrlStep
  | true => rw [tick_active c code ibus pot per s k]; exact (h.tickFront code ibus pot per).idStep code

theorem resetWith (c : Config) : Bookkeeping c (State.resetWith c) where
  pi0 := ⟨rfl, rfl, rfl, rfl, rfl⟩
  pi1 := ⟨rfl, rfl, rfl, rfl, rfl⟩
  pi2 := ⟨rfl, rfl, rfl, rfl, rfl⟩
  failures := by simp [State.resetWith]
  uncalibrated := fun _ => ⟨rfl, rfl, rfl⟩
  rowZero := offTable_word c 0

theorem initBody (c : Config) (s : State) : Bookkeeping c (initBody c s) := by
  rw [initBody_eq]
  exact { resetWith c with }

theorem idStart (h : Bookkeeping c s) : Bookkeeping c (idStart c s) := by
  obtain ⟨-, refused⟩ | ⟨-, started⟩ := idStart_cases c s
  · exact refused ▸ h.of_unitsKept (unitsKept_badEv s)
  · rw [started]
    exact { h with failures := by simp, rowZero := offTable_word c 0 }

theorem eventEffect (h : Bookkeeping c s) (i : Instr) : Bookkeeping c (eventEffect c i s) := by
  obtain ⟨code, ibus, pot, per, rfl⟩ | ⟨-, s', e⟩ | rfl | ⟨-, kept⟩ := eventEffect_cases c i s
  · exact h.tick code ibus pot per
  · exact e ▸ initBody c s'
  · exact h.idStart
  · exact h.of_unitsKept kept

end Bookkeeping

/-- Settles O58. -/
theorem everyStepKeepsTheBookkeeping : Obligations.EveryStepKeepsTheBookkeeping :=
  step_keeps (fun _ _ h => { h with }) (fun i _ h => h.eventEffect i)

/-! ## The state after reset -/

theorem PwmGated.resetWith (c : Config) : PwmGated (State.resetWith c) where
  enabled := by simp [State.resetWith]
  parked := by simp [State.resetWith]

theorem DefectHeld.resetWith (c : Config) : DefectHeld c (State.resetWith c) where
  flag := rfl
  held := fun defective => ⟨if_pos defective, rfl, rfl⟩

/-- Settles O59. -/
theorem resetMeetsTheInvariants : Obligations.ResetMeetsTheInvariants :=
  ⟨.resetWith _, .resetWith _, .resetWith _, .resetWith _⟩

end Sys2Proof.Machine
end

section
/-! SUPPORT. The flags that only a read of `STATUS` sees (rule R15): an operation that ignores them takes two states that differ
in no more to two such states, and the operations of a tick, each of which ignores them, compose. After it the statement on
every event but that read. -/

namespace Sys2Proof.Machine

/-- What `f` leaves depends on nothing of the four report flags but the flags themselves. -/
def IgnoresReports (f : State → State) : Prop :=
  ∀ s s' : State, withoutReportFlags s = withoutReportFlags s' → withoutReportFlags (f s) = withoutReportFlags (f s')

/-- It is enough that the report flags may be put to 0 before the operation. -/
theorem ignoresReports_of_erase {f : State → State}
    (h : ∀ s, withoutReportFlags (f (withoutReportFlags s)) = withoutReportFlags (f s)) : IgnoresReports f := by
  intro s s' same
  rw [← h s, same, h s']

theorem IgnoresReports.erase {f : State → State} (h : IgnoresReports f) (s : State) :
    withoutReportFlags (f (withoutReportFlags s)) = withoutReportFlags (f s) := h _ _ rfl

theorem IgnoresReports.comp {f g : State → State} (hg : IgnoresReports g) (hf : IgnoresReports f) :
    IgnoresReports (fun s => g (f s)) := fun s s' same => hg _ _ (hf s s' same)

/-- A choice between two operations ignores the flags when its test does. -/
theorem IgnoresReports.ite {f g : State → State} {test : State → Prop} [DecidablePred test] (hf : IgnoresReports f)
    (hg : IgnoresReports g) (h : ∀ s, test (withoutReportFlags s) ↔ test s := by exact fun _ => Iff.rfl) :
    IgnoresReports (fun s => if test s then f s else g s) := by
  refine ignoresReports_of_erase fun s => ?_
  by_cases k : test s
  · rw [if_pos k, if_pos ((h s).2 k), hf.erase]
  · rw [if_neg k, if_neg (mt (h s).1 k), hg.erase]

theorem ignoresReports_id : IgnoresReports (fun s => s) := fun _ _ same => same

theorem ignoresReports_badEv : IgnoresReports (raise .badEv) := ignoresReports_of_erase fun _ => rfl

theorem ignoresReports_enterFault : IgnoresReports enterFault := ignoresReports_of_erase fun _ => rfl

theorem ignoresReports_parkInInit : IgnoresReports parkInInit := ignoresReports_of_erase fun _ => rfl

/-! ## The front of a tick -/

theorem ignoresReports_latchInputs (ibus pot per : Word) : IgnoresReports (latchInputs ibus pot per) :=
  ignoresReports_of_erase fun _ => rfl

theorem ignoresReports_hallSeed (code : BitVec 3) : IgnoresReports (hallSeed code) :=
  ignoresReports_of_erase fun s => by simp only [hallSeed, hallRead_eq, withoutReportFlags]

theorem ignoresReports_hallUpd (code : BitVec 3) : IgnoresReports (hallUpd code) :=
  ignoresReports_of_erase fun s => by
    simp only [hallUpd, hallRead_eq, withoutReportFlags]
    split <;> rfl

theorem ignoresReports_hallEdge (c : Config) : IgnoresReports (hallEdge c) :=
  ignoresReports_of_erase fun s => by simp only [hallEdge_eq, withoutReportFlags]

theorem ignoresReports_hallNoEdge : IgnoresReports hallNoEdge :=
  .ite (ignoresReports_of_erase fun _ => rfl) ignoresReports_id

/-- The handler raises two of the flags; what it writes to the hall record does not depend on them (rule R116). -/
theorem ignoresReports_hallHandler (c : Config) (code : BitVec 3) : IgnoresReports (hallHandler c code) := by
  have start : IgnoresReports fun s => { s with hall.tmrRun := true } := ignoresReports_of_erase fun _ => rfl
  have edgeOrNot : IgnoresReports fun s => if s.hall.chg = true then hallEdge c s else hallNoEdge s :=
    .ite (ignoresReports_hallEdge c) ignoresReports_hallNoEdge
  exact .ite (ignoresReports_hallSeed code) (edgeOrNot.comp ((ignoresReports_hallUpd code).comp start))

theorem ignoresReports_speedCalc (c : Config) : IgnoresReports (speedCalc c) :=
  ignoresReports_of_erase fun _ => rfl

theorem ignoresReports_curStep (c : Config) : IgnoresReports (curStep c) :=
  .ite (ignoresReports_of_erase fun s => by simp only [curOffs_eq, withoutReportFlags])
    (ignoresReports_of_erase fun _ => rfl)

theorem ignoresReports_tickFront (c : Config) (code : BitVec 3) (ibus pot per : Word) :
    IgnoresReports (tickFront c code ibus pot per) :=
  (ignoresReports_curStep c).comp <| (ignoresReports_speedCalc c).comp <|
    (ignoresReports_hallHandler c code).comp (ignoresReports_latchInputs ibus pot per)

/-! ## The control machine and the identifier -/

theorem ignoresReports_armLoop : IgnoresReports armLoop := by
  have select (mode : BitVec 3) : IgnoresReports fun s => { s with ctrlState := mode } :=
    ignoresReports_of_erase fun _ => rfl
  exact .ite (select stOpenLoop) <| .ite (select stSpeedLoop) <| .ite (select stCurrentLoop) ignoresReports_enterFault

/-- Neither the choice of an arm nor an arm reads a flag (rule R190: no sensor flag enters FAULT). -/
theorem ignoresReports_ctrlStep (c : Config) : IgnoresReports (ctrlStep c) := by
  have fault : IgnoresReports armFault := ignoresReports_of_erase fun _ => rfl
  have init : IgnoresReports armInit := ignoresReports_of_erase fun _ => rfl
  have openLoop : IgnoresReports (armOpenLoop c) := ignoresReports_of_erase fun _ => rfl
  have speedLoop : IgnoresReports (armSpeedLoop c) := ignoresReports_of_erase fun _ => rfl
  have currentLoop : IgnoresReports (armCurrentLoop c) := ignoresReports_of_erase fun _ => rfl
  exact .ite ignoresReports_enterFault <| .ite fault <| .ite ignoresReports_parkInInit <| .ite init <|
    .ite ignoresReports_armLoop <| .ite openLoop <| .ite speedLoop currentLoop

theorem ignoresReports_idComplete : IgnoresReports idComplete := ignoresReports_of_erase fun _ => rfl

theorem ignoresReports_idReading (c : Config) (code : BitVec 3) (v : Fin 6) : IgnoresReports (idReading c code v) :=
  ignoresReports_of_erase fun s => by rw [idReading_eq, idReading_eq]; rfl

theorem ignoresReports_idVector (c : Config) (code : BitVec 3) (v : Fin 6) : IgnoresReports (idVector c code v) := by
  have drive : IgnoresReports (idDrive c v) := ignoresReports_of_erase fun _ => rfl
  have count : IgnoresReports fun s => { s with ident.icnt := s.ident.icnt + 1 } := ignoresReports_of_erase fun _ => rfl
  have readOrCount : IgnoresReports fun s =>
      if s.ident.icnt.toNat + 1 ≥ c.idInterval.toNat then idReading c code v s
      else { s with ident.icnt := s.ident.icnt + 1 } :=
    .ite (ignoresReports_idReading c code v) count
  exact readOrCount.comp drive

theorem ignoresReports_idStep (c : Config) (code : BitVec 3) : IgnoresReports (idStep c code) := by
  refine ignoresReports_of_erase fun s => ?_
  by_cases running : s.ident.vec.toNat < 6
  · have completeOrNot : IgnoresReports fun s => if s.ident.vec.toNat ≥ 6 then idComplete s else s :=
      .ite ignoresReports_idComplete ignoresReports_id
    rw [idStep_vector c code s ⟨_, running⟩ rfl, idStep_vector c code (withoutReportFlags s) ⟨_, running⟩ rfl]
    exact (completeOrNot.comp (ignoresReports_idVector c code ⟨_, running⟩)).erase s
  · rw [idStep_finished c code s running, idStep_finished c code (withoutReportFlags s) running]
    exact ignoresReports_idComplete.erase s

/-! ## The events -/

theorem ignoresReports_tick (c : Config) (code : BitVec 3) (ibus pot per : Word) :
    IgnoresReports (tick c code ibus pot per) := by
  have last : IgnoresReports fun s => if s.ident.active = true then idStep c code s else ctrlStep c s :=
    .ite (ignoresReports_idStep c code) (ignoresReports_ctrlStep c)
  exact last.comp (ignoresReports_tickFront c code ibus pot per)

theorem ignoresReports_initBody (c : Config) : IgnoresReports (initBody c) :=
  ignoresReports_of_erase fun s => by simp only [initBody_eq, withoutReportFlags]

theorem ignoresReports_resetOp (c : Config) : IgnoresReports (resetOp c) :=
  ignoresReports_of_erase fun s => by simp only [resetOp_eq, withoutReportFlags]

theorem ignoresReports_tclk (n : DWord) : IgnoresReports (tclk n) :=
  .ite (ignoresReports_of_erase fun _ => rfl) ignoresReports_id

theorem ignoresReports_idStart (c : Config) : IgnoresReports (idStart c) :=
  .ite ignoresReports_badEv (ignoresReports_of_erase fun _ => rfl)

theorem ignoresReports_idHandover : IgnoresReports idHandover :=
  .ite ignoresReports_badEv (ignoresReports_of_erase fun _ => rfl)

theorem ignoresReports_tblLoadId : IgnoresReports tblLoadId :=
  .ite ignoresReports_badEv (ignoresReports_of_erase fun _ => rfl)

theorem ignoresReports_ctrlReset : IgnoresReports ctrlReset :=
  .ite ignoresReports_badEv ignoresReports_parkInInit

theorem ignoresReports_writeRunTable (a : BitVec 8) (v : Word) : IgnoresReports (writeRunTable a v) :=
  ignoresReports_of_erase fun s => by
    unfold writeRunTable
    split <;> rfl

/-- A read sees the flags at `STATUS` alone (rule R15). -/
theorem ignoresReports_readToPort {a : BitVec 8} (h : a ≠ 0x02) : IgnoresReports (readToPort a) :=
  ignoresReports_of_erase fun s => by
    have word : memRead (withoutReportFlags s) a = memRead s a := memRead_flags s _ a h
    unfold readToPort
    rw [word]
    rfl

theorem ignoresReports_eventEffect (c : Config) {i : Instr} (h : i ≠ .rd 0x02) : IgnoresReports (eventEffect c i) := by
  cases i with
  | nopev | cmdNop => exact ignoresReports_id
  | reset => exact ignoresReports_resetOp c
  | tick code ibus pot per => exact ignoresReports_tick c code ibus pot per
  | tclk n => exact ignoresReports_tclk n
  | cmdInit => exact ignoresReports_initBody c
  | cmdIdStart => exact ignoresReports_idStart c
  | cmdIdHandover => exact ignoresReports_idHandover
  | cmdTblLoadId => exact ignoresReports_tblLoadId
  | cmdCtrlReset => exact ignoresReports_ctrlReset
  | wrTbl8x | wrTbl9x | wrTbl94 => exact ignoresReports_writeRunTable _ _
  | rd addr => exact ignoresReports_readToPort fun e => h (congrArg Instr.rd e)
  | cmdRsvd | wrRo | rsvd => exact ignoresReports_badEv
  | cmdTblLoadConst | cmdCtrlFault | wrCtrl | wrStatus => exact ignoresReports_of_erase fun _ => rfl

/-- Settles O52. -/
theorem reportFlagsNeverSteer : Obligations.ReportFlagsNeverSteer := by
  intro i s s' t t' notStatus same h h'
  rw [eq_eventEffect_of_exec h, eq_eventEffect_of_exec h']
  exact ignoresReports_eventEffect _ notStatus s s' same

end Sys2Proof.Machine
end

section
/-! SUPPORT. The words of the block: the fields of a word packed from several, the `WR` word, and the write it performs
(rules R45 and R63). After it the statements on writes. -/

namespace Sys2Proof

/-! ## Packed words

Stated for a total width that need not be spelt as a sum: the packed words of the model have width 16 or 64, and `simp`
does not see a library lemma about width `n + m` there. -/

theorem getLsbD_packed {n m : Nat} (x : BitVec n) (y : BitVec m) (i : Nat) :
    @BitVec.getLsbD (no_index (n + m)) (HAppend.hAppend (γ := BitVec (no_index _)) x y) i
      = if i < m then y.getLsbD i else x.getLsbD (i - m) := BitVec.getLsbD_append

theorem extractLsb'_packed_high {n m start len : Nat} (x : BitVec n) (y : BitVec m) (h : m ≤ start) :
    @BitVec.extractLsb' (no_index (n + m)) start len (HAppend.hAppend (γ := BitVec (no_index _)) x y)
      = x.extractLsb' (start - m) len := BitVec.extractLsb'_append_eq_of_le h

theorem extractLsb'_packed_low {n m start len : Nat} (x : BitVec n) (y : BitVec m) (h : start + len ≤ m) :
    @BitVec.extractLsb' (no_index (n + m)) start len (HAppend.hAppend (γ := BitVec (no_index _)) x y)
      = y.extractLsb' start len := BitVec.extractLsb'_append_eq_of_add_le h

/-! ## The `WR` word -/

/-- Format W read back (rule R63). -/
theorem encodeWr_fields (addr : BitVec 8) (data : Word) :
    (encodeWr addr data).extractLsb' 60 4 = 3 ∧ (encodeWr addr data).extractLsb' 24 36 = 0
      ∧ (encodeWr addr data).extractLsb' 16 8 = addr ∧ (encodeWr addr data).extractLsb' 0 16 = data := by
  simp [encodeWr, extractLsb'_packed_high, extractLsb'_packed_low]

/-- A `WR` word is decoded by its address and its data. -/
theorem decode_encodeWr (addr : BitVec 8) (data : Word) : decode (encodeWr addr data) = decodeWrite addr data := by
  obtain ⟨cls, zero, addr_eq, data_eq⟩ := encodeWr_fields addr data
  generalize encodeWr addr data = w at cls zero addr_eq data_eq
  have notNopev : w ≠ 0 := by rintro rfl; revert cls; decide
  have notReset : w ≠ 0xF000000000000000 := by rintro rfl; revert cls; decide
  rw [decode, if_neg notNopev, if_neg notReset]
  simp [eventClass, cls, zero, addr_eq, data_eq]

theorem writable_eq_false {a : BitVec 8} : writable a = false
    ↔ a ≠ 0x00 ∧ a ≠ 0x01 ∧ a ≠ 0x02 ∧ ¬(0x80 ≤ a.toNat ∧ a.toNat ≤ 0x94) := by
  simp [writable, and_assoc]

/-- The address of a word of the first table row. -/
theorem toNat_tbl8x : ∀ lo : BitVec 4, (0x8#4 ++ lo : BitVec 8).toNat = 0x80 + lo.toNat := by decide

/-- The address of a word of the second table row. -/
theorem toNat_tbl9x : ∀ lo : BitVec 2, (0x24#6 ++ lo : BitVec 8).toNat = 0x90 + lo.toNat := by decide

/-- A write that reaches no register decodes to the row of rule R46: every other row's address is writable. -/
theorem decodeWrite_of_not_writable {a : BitVec 8} (d : Word) (h : writable a = false) :
    decodeWrite a d = .wrRo a d := by
  have tbl8x : ∀ lo : BitVec 4, writable (0x8#4 ++ lo) = true := by decide
  have tbl9x : ∀ lo : BitVec 2, writable (0x24#6 ++ lo) = true := by decide
  refine decodeWrite_cases (fun a d i => writable a = false → i = .wrRo a d) ?cmd ?ctrl ?status ?tbl8x ?tbl9x ?tbl94
    (fun _ _ _ _ => rfl) a d h
  case cmd | ctrl | status | tbl94 => intro _ no; exact absurd no (by decide)
  case tbl8x => intro lo _ no; simp [tbl8x lo] at no
  case tbl9x => intro lo _ no; simp [tbl9x lo] at no

end Sys2Proof

namespace Sys2Proof.Machine

/-! ## The write a word performs -/

theorem tableIndex_eq_none {base : Nat} {a : BitVec 8} :
    tableIndex base a = none ↔ ¬(base ≤ a.toNat ∧ a.toNat < base + 21) := by
  unfold tableIndex
  split <;> simp only [reduceCtorEq, true_iff, false_iff] <;> omega

/-- Outside the run table nothing is written (rule R46). -/
theorem writeRunTable_outside {a : BitVec 8} (h : ¬(0x80 ≤ a.toNat ∧ a.toNat ≤ 0x94)) (v : Word) (s : State) :
    writeRunTable a v s = raise .badEv s := by
  unfold writeRunTable
  rw [tableIndex_eq_none.2 (by omega)]

/-- Above the three control registers a write is one to the run table. -/
theorem memWrite_above (c : Config) {a : BitVec 8} (h : 2 < a.toNat) (v : Word) (s : State) :
    memWrite c a v s = writeRunTable a v s := by
  have above : ∀ k : BitVec 8, k.toNat ≤ 2 → a ≠ k := by rintro k hk rfl; omega
  rw [memWrite, if_neg (above _ (by decide)), if_neg (above _ (by decide)), if_neg (above _ (by decide))]

/-- The codes above the eight commands raise `BADEV` (rule R172). -/
theorem cmdDispatch_reserved (c : Config) {v : Word} (h : 8 ≤ v.toNat) (s : State) :
    cmdDispatch c v s = raise .badEv s := by
  have above : ∀ k : Word, k.toNat < 8 → v ≠ k := by rintro k hk rfl; omega
  simp [cmdDispatch, above]

/-- Decoding a code and running the operation is the dispatch of rule R172. -/
theorem eventEffect_decodeCommand (c : Config) (v : Word) (s : State) :
    eventEffect c (decodeCommand v) s = cmdDispatch c v s :=
  decodeCommand_cases (fun v i => eventEffect c i s = cmdDispatch c v s) rfl rfl rfl rfl rfl rfl rfl rfl
    (fun _ reserved => (cmdDispatch_reserved c reserved s).symm) v

/-- Decoding a write and running the operation is `MemWrite` (rule R45). -/
theorem eventEffect_decodeWrite (c : Config) (a : BitVec 8) (d : Word) (s : State) :
    eventEffect c (decodeWrite a d) s = memWrite c a d s := by
  refine decodeWrite_cases (fun a d i => eventEffect c i s = memWrite c a d s) ?cmd (fun _ => rfl) (fun _ => rfl)
    ?tbl8x ?tbl9x (fun _ => rfl) ?ro a d
  case cmd => intro v; exact eventEffect_decodeCommand c v s
  case tbl8x => intro lo v; exact (memWrite_above c (by rw [toNat_tbl8x]; omega) v s).symm
  case tbl9x => intro lo v; exact (memWrite_above c (by rw [toNat_tbl9x]; omega) v s).symm
  case ro =>
    intro b v no
    obtain ⟨cmd, ctrl, status, outside⟩ := writable_eq_false.1 no
    rw [memWrite_above c (by bv_omega), writeRunTable_outside outside]
    rfl

/-- Settles O18. -/
theorem writeWordsPerformMemWrite : Obligations.WriteWordsPerformMemWrite := by
  intro addr data s
  rw [decode_encodeWr, exec_eq_next, eventEffect_decodeWrite]

/-- Settles O14. -/
theorem writesElsewhereOnlyRaiseBadev : Obligations.WritesElsewhereOnlyRaiseBadev := by
  intro addr data s elsewhere
  rw [decode_encodeWr, decodeWrite_of_not_writable data (writable_eq_false.2 elsewhere), exec_eq_next]
  exact ⟨rfl, rfl⟩

/-! ## Writes to the run table -/

/-- Each row of the opcode table writes the run table at its own address (rule R68). -/
theorem exec_tableWrite {i : Instr} {n : Nat} {data : Word}
    (h : (∃ lo : BitVec 4, i = .wrTbl8x lo data ∧ 0x80 + lo.toNat = n)
      ∨ (∃ lo : BitVec 2, i = .wrTbl9x lo data ∧ 0x90 + lo.toNat = n) ∨ (i = .wrTbl94 data ∧ 0x94 = n)) (s : State) :
    ∃ a : BitVec 8, a.toNat = n ∧ exec i s = .next (writeRunTable a data s) := by
  obtain ⟨lo, rfl, at8x⟩ | ⟨lo, rfl, at9x⟩ | ⟨rfl, at94⟩ := h
  · exact ⟨0x8#4 ++ lo, (toNat_tbl8x lo).trans at8x, rfl⟩
  · exact ⟨0x24#6 ++ lo, (toNat_tbl9x lo).trans at9x, rfl⟩
  · exact ⟨0x94, at94, rfl⟩

/-- A table that ends below 0xB5 has its addresses in the register space. -/
theorem toNat_tableAddress {base : Nat} (h : base ≤ 0xA0) (r : Fin 7) (ch : Fin 3) :
    (BitVec.ofNat 8 (base + 3 * r.val + ch.val)).toNat = base + 3 * r.val + ch.val := by
  rw [BitVec.toNat_ofNat, Nat.mod_eq_of_lt (by omega)]

/-- Settles O15. -/
theorem tableWritesReplaceOneWord : Obligations.TableWritesReplaceOneWord := by
  intro r ch data s i row
  obtain ⟨a, address, runs⟩ := exec_tableWrite row s
  have written := writeRunTable_eq address data s
  have reads := memRead_writeRunTable address data s
  have sameAddress : BitVec.ofNat 8 (0x80 + 3 * r.val + ch.val) = a :=
    BitVec.eq_of_toNat_eq ((toNat_tableAddress (by decide) r ch).trans address.symm)
  refine ⟨_, runs, ?_, ?_, fun b other => ?_, ?_⟩
  · rw [written]; exact setTableWord_same s.runTable (r, ch) data
  · rw [reads, if_pos sameAddress]
  · rw [reads, if_neg (by rintro rfl; exact other address)]
  · rw [written]

/-! ## Writes to `CTRL` and `STATUS` -/

/-- The four bits of `CTRL` as a word. -/
theorem setWidth_lowNibble (v : Word) : (v.extractLsb' 0 4).setWidth 16 = v &&& 0x000F := by
  ext i hi
  interval_cases i <;> simp

/-- Settles O16. -/
theorem ctrlWriteReplacesTheFourBits : Obligations.CtrlWriteReplacesTheFourBits :=
  fun data _ => ⟨rfl, setWidth_lowNibble data⟩

/-- Write one to clear (rule R192), bit by bit of `STATUS`. -/
theorem statusWord_writeStatus (v : Word) (s : State) :
    statusWord (writeStatus v s) = statusWord s &&& ~~~(v &&& 0x0083) := by
  refine BitVec.eq_of_getLsbD_eq fun i hi => ?_
  rw [BitVec.getLsbD_and]
  simp only [statusWord, statusByte, stopped, writeStatus, clearFlags, getLsbD_packed]
  interval_cases i <;> simp [Bool.and_comm]

/-- Settles O17. -/
theorem statusWriteClearsTheSelectedFlags : Obligations.StatusWriteClearsTheSelectedFlags :=
  fun data s => ⟨writeStatus data s, rfl, statusWord_writeStatus data s, fun a h => memRead_flags s _ a h, rfl⟩

end Sys2Proof.Machine
end

section
/-! SUPPORT. The register space as it is read: the packed words field by field, the wide elements from their words, the
tables, and the addresses that rule R44 leaves unmapped. After it the statement on every address. -/

namespace Sys2Proof.Machine

/-! ## Packed words -/

/-- The bits of `STATUS` (rule R72). -/
theorem statusWord_bits (s : State) :
    (statusWord s).getLsbD 0 = s.flags.hallFail ∧ (statusWord s).getLsbD 1 = s.flags.tmrErr
      ∧ (statusWord s).getLsbD 2 = s.flags.idFail ∧ (statusWord s).getLsbD 3 = s.flags.idDone
      ∧ (statusWord s).getLsbD 4 = s.flags.offsDone ∧ (statusWord s).getLsbD 5 = s.flags.cfgErr
      ∧ (statusWord s).getLsbD 6 = decide (s.hall.stopCnt = 0) ∧ (statusWord s).getLsbD 7 = s.flags.badEv
      ∧ (statusWord s).extractLsb' 8 8 = 0 := by
  have stopped_eq : stopped s = decide (s.hall.stopCnt = 0) := rfl
  simp [statusWord, statusByte, stopped_eq, getLsbD_packed, extractLsb'_packed_high, -BitVec.getLsbD_eq_getElem]

/-- The fields of `SECT` (rule R75). -/
theorem sectWord_fields (s : State) :
    (sectWord s).extractLsb' 0 3 = s.ctx.commSector ∧ (sectWord s).extractLsb' 4 3 = s.ctx.inSector
      ∧ (sectWord s).getLsbD 8 = s.ctx.inDir := by
  simp [sectWord, getLsbD_packed, extractLsb'_packed_high, extractLsb'_packed_low, -BitVec.getLsbD_eq_getElem]

theorem sectWord_unused (s : State) : sectWord s &&& 0xFE88 = 0 := by
  have fields : (0xFE88 : Word) = 0x7F#7 ++ 0#1 ++ 1#1 ++ 0#3 ++ 1#1 ++ 0#3 := rfl
  rw [sectWord, fields]
  iterate 5 rw [BitVec.and_append]
  simp

/-- The fields of `HALL` (rule R75). -/
theorem hallPacked_fields (s : State) :
    (hallPacked s).extractLsb' 0 3 = s.hall.cur ∧ (hallPacked s).extractLsb' 4 3 = s.hall.prev
      ∧ (hallPacked s).extractLsb' 8 3 = s.hall.sector ∧ (hallPacked s).getLsbD 12 = s.hall.chg
      ∧ (hallPacked s).getLsbD 13 = s.hall.tmrRun ∧ (hallPacked s).getLsbD 14 = s.hall.hseed := by
  simp [hallPacked, getLsbD_packed, extractLsb'_packed_high, extractLsb'_packed_low, -BitVec.getLsbD_eq_getElem]

theorem hallPacked_unused (s : State) : hallPacked s &&& 0x8888 = 0 := by
  have fields : (0x8888 : Word) = 1#1 ++ 0#1 ++ 0#1 ++ 0#1 ++ 1#1 ++ 0#3 ++ 1#1 ++ 0#3 ++ 1#1 ++ 0#3 := rfl
  rw [hallPacked, fields]
  iterate 9 rw [BitVec.and_append]
  simp

/-- The fields of `ID_CTL` (rule R75). -/
theorem idCtlWord_fields (s : State) :
    (idCtlWord s).extractLsb' 0 3 = s.ident.vec ∧ (idCtlWord s).getLsbD 3 = s.ident.active
      ∧ (idCtlWord s).extractLsb' 4 3 = s.ident.hallNow ∧ (idCtlWord s).extractLsb' 8 3 = s.ident.hallLast
      ∧ (idCtlWord s).extractLsb' 12 3 = s.ident.failCnt := by
  simp [idCtlWord, getLsbD_packed, extractLsb'_packed_high, extractLsb'_packed_low, -BitVec.getLsbD_eq_getElem]

theorem idCtlWord_unused (s : State) : idCtlWord s &&& 0x8880 = 0 := by
  have fields : (0x8880 : Word) = 1#1 ++ 0#3 ++ 1#1 ++ 0#3 ++ 1#1 ++ 0#3 ++ 0#1 ++ 0#3 := rfl
  rw [idCtlWord, fields]
  iterate 7 rw [BitVec.and_append]
  simp

/-! ## Wide elements (rule R41) -/

theorem highWord_append_lowWord (x : DWord) : highWord x ++ lowWord x = x := BitVec.extractLsb'_append_extractLsb'

theorem acc48_words (x : Acc48) : x.extractLsb' 32 16 ++ x.extractLsb' 16 16 ++ x.extractLsb' 0 16 = x := by
  have upper : x.extractLsb' 32 16 ++ x.extractLsb' 16 16 = x.extractLsb' 16 32 :=
    BitVec.extractLsb'_append_extractLsb'_eq_extractLsb' rfl
  rw [upper]
  exact BitVec.extractLsb'_append_extractLsb'

/-! ## The tables (rule R68) -/

theorem memRead_runTableWord (s : State) (r : Fin 7) (ch : Fin 3) :
    memRead s (BitVec.ofNat 8 (0x80 + 3 * r.val + ch.val)) = s.runTable[r][ch] := by
  have address := toNat_tableAddress (base := 0x80) (by decide) r ch
  rw [memRead_block _ _ (by omega), tableIndex_of_row address]
  rfl

theorem memRead_idMapWord (s : State) (r : Fin 7) (ch : Fin 3) :
    memRead s (BitVec.ofNat 8 (0xA0 + 3 * r.val + ch.val)) = s.ident.map[r][ch] := by
  have address := toNat_tableAddress (base := 0xA0) (by decide) r ch
  generalize BitVec.ofNat 8 (0xA0 + 3 * r.val + ch.val) = a at address
  have block : a.toNat / 16 = 10 ∨ a.toNat / 16 = 11 := by omega
  unfold memRead mappedWord
  rcases block with e | e <;> rw [e] <;> simp only [tableIndex_of_row address] <;> rfl

/-! ## Unmapped addresses (rule R44) -/

theorem bankWord_none (b : PiBank) {k : Nat} (h : 10 ≤ k) : bankWord b k = none := by
  obtain ⟨n, rfl⟩ := Nat.exists_eq_add_of_le' h
  rfl

theorem speedBankWord_none (s : State) {k : Nat} (h : 12 ≤ k) : speedBankWord s k = none := by
  obtain ⟨n, rfl⟩ := Nat.exists_eq_add_of_le' h
  rfl

theorem hallWord_none (s : State) {k : Nat} (h : 12 ≤ k) : hallWord s k = none := by
  obtain ⟨n, rfl⟩ := Nat.exists_eq_add_of_le' h
  rfl

theorem currentWord_none (s : State) {k : Nat} (h : 9 ≤ k) : currentWord s k = none := by
  obtain ⟨n, rfl⟩ := Nat.exists_eq_add_of_le' h
  rfl

theorem identWord_none (s : State) {k : Nat} (h : 4 ≤ k) : identWord s k = none := by
  obtain ⟨n, rfl⟩ := Nat.exists_eq_add_of_le' h
  rfl

/-- The addresses rule R44 leaves unmapped, block by block: past the end of a block's registers or table, or in a block
that has none. -/
theorem mappedWord_eq_none (s : State) {a : BitVec 8}
    (h : (0x1C ≤ a.toNat ∧ a.toNat ≤ 0x1F) ∨ (0x2A ≤ a.toNat ∧ a.toNat ≤ 0x2F) ∨ (0x3A ≤ a.toNat ∧ a.toNat ≤ 0x3F)
        ∨ (0x4C ≤ a.toNat ∧ a.toNat ≤ 0x4F) ∨ (0x59 ≤ a.toNat ∧ a.toNat ≤ 0x5F)
        ∨ (0x64 ≤ a.toNat ∧ a.toNat ≤ 0x7F) ∨ (0x95 ≤ a.toNat ∧ a.toNat ≤ 0x9F) ∨ 0xB5 ≤ a.toNat) :
    mappedWord s a = none := by
  rw [mappedWord]
  obtain speed | pi1 | pi2 | hall | current | ident | runTable | idMap := h
  · rw [show a.toNat / 16 = 1 by omega]; exact speedBankWord_none s (by omega)
  · rw [show a.toNat / 16 = 2 by omega]; exact bankWord_none s.pi1 (by omega)
  · rw [show a.toNat / 16 = 3 by omega]; exact bankWord_none s.pi2 (by omega)
  · rw [show a.toNat / 16 = 4 by omega]; exact hallWord_none s (by omega)
  · rw [show a.toNat / 16 = 5 by omega]; exact currentWord_none s (by omega)
  · obtain registers | empty := (by omega : a.toNat / 16 = 6 ∨ a.toNat / 16 = 7)
    · rw [registers]; exact identWord_none s (by omega)
    · rw [empty]; rfl
  · rw [show a.toNat / 16 = 9 by omega, tableIndex_eq_none.2 (by omega)]; rfl
  · have past : tableIndex 0xA0 a = none := tableIndex_eq_none.2 (by omega)
    obtain table | empty := (by omega : a.toNat / 16 = 11 ∨ 12 ≤ a.toNat / 16)
    · rw [table, past]; rfl
    · obtain ⟨n, block⟩ := Nat.exists_eq_add_of_le' empty
      rw [block]; rfl

theorem memRead_unmapped {s : State} {a : BitVec 8} (h : mappedWord s a = none) : memRead s a = 0 := by
  rw [memRead, h]; rfl

/-- Settles O12. -/
theorem registerMapReadsEveryElement : Obligations.RegisterMapReadsEveryElement := by
  intro s
  have wide := highWord_append_lowWord
  refine ⟨?control, statusWord_bits s, ?sect, ?banks, ⟨rfl, rfl⟩, ?hallPacked, ?hall, ?current, ?idCtl,
    ⟨rfl, wide s.ident.duty⟩, fun r ch => ⟨memRead_runTableWord s r ch, memRead_idMapWord s r ch⟩,
    fun a unmapped => memRead_unmapped (mappedWord_eq_none s unmapped)⟩
  case control =>
    have pwmEn : memRead s 0x04 = if s.out.pwmEn then 1 else 0 := by
      show (BitVec.ofBool s.out.pwmEn).setWidth 16 = _
      cases s.out.pwmEn <;> rfl
    have ctrl : (s.ctrl.setWidth 16).toNat = s.ctrl.toNat := BitVec.toNat_setWidth_of_le (by decide)
    have ctrlState : (s.ctrlState.setWidth 16).toNat = s.ctrlState.toNat := BitVec.toNat_setWidth_of_le (by decide)
    exact ⟨rfl, ctrl, ctrlState, pwmEn, rfl, rfl, rfl, rfl, rfl, rfl, rfl, rfl, wide s.ctx.tgtDuty⟩
  case sect =>
    obtain ⟨comm, sector, dir⟩ := sectWord_fields s
    exact ⟨comm, sector, dir, sectWord_unused s⟩
  case banks =>
    intro b base bank
    simp only [List.mem_cons, Prod.mk.injEq, List.not_mem_nil, or_false] at bank
    obtain ⟨rfl, rfl⟩ | ⟨rfl, rfl⟩ | ⟨rfl, rfl⟩ := bank <;>
      exact ⟨rfl, rfl, rfl, rfl, rfl, rfl, rfl, rfl, rfl, rfl⟩
  case hallPacked =>
    obtain ⟨cur, prev, sector, chg, tmrRun, hseed⟩ := hallPacked_fields s
    exact ⟨cur, prev, sector, chg, tmrRun, hseed, hallPacked_unused s⟩
  case hall => exact ⟨rfl, wide s.hall.tmr, wide s.hall.period, wide s.spd.maAvg, acc48_words s.spd.maAcc, rfl⟩
  case current => exact ⟨rfl, rfl, wide s.cur.offsAcc, rfl, rfl, rfl, wide s.cur.lpfAcc⟩
  case idCtl =>
    obtain ⟨vec, active, hallNow, hallLast, failCnt⟩ := idCtlWord_fields s
    exact ⟨vec, active, hallNow, hallLast, failCnt, idCtlWord_unused s⟩

end Sys2Proof.Machine
end

section
/-! SUPPORT. The encoder and the decoder against each other and against the opcode table (rules R60 to R65, R69 and R77).
After it the statements on the encoding. -/

namespace Sys2Proof

/-! ## The formats read back -/

/-- Format T read back (rule R61). -/
theorem encodeTick_fields (code : BitVec 3) (ibus pot per : Word) :
    (encodeTick code ibus pot per).extractLsb' 60 4 = 1 ∧ (encodeTick code ibus pot per).extractLsb' 51 9 = 0
      ∧ (encodeTick code ibus pot per).extractLsb' 48 3 = code ∧ (encodeTick code ibus pot per).extractLsb' 32 16 = ibus
      ∧ (encodeTick code ibus pot per).extractLsb' 16 16 = pot ∧ (encodeTick code ibus pot per).extractLsb' 0 16 = per := by
  simp [encodeTick, extractLsb'_packed_high, extractLsb'_packed_low]

/-- Format C read back (rule R62). -/
theorem encodeTclk_fields (n : DWord) :
    (encodeTclk n).extractLsb' 60 4 = 2 ∧ (encodeTclk n).extractLsb' 32 28 = 0 ∧ (encodeTclk n).extractLsb' 0 32 = n := by
  simp [encodeTclk, extractLsb'_packed_high, extractLsb'_packed_low]

/-- Format R read back (rule R64). -/
theorem encodeRd_fields (addr : BitVec 8) :
    (encodeRd addr).extractLsb' 60 4 = 4 ∧ (encodeRd addr).extractLsb' 24 36 = 0
      ∧ (encodeRd addr).extractLsb' 0 16 = 0 ∧ (encodeRd addr).extractLsb' 16 8 = addr := by
  simp [encodeRd, extractLsb'_packed_high, extractLsb'_packed_low]

/-! ## A word of a format is the word of its fields -/

/-- Stated, like the packed words above, for a total width that need not be spelt as a sum. -/
theorem extractLsb'_adjacent (w : EventWord) {start mid n m : Nat} (h : mid = start + m) :
    HAppend.hAppend (γ := BitVec (no_index (n + m))) (w.extractLsb' mid n) (w.extractLsb' start m)
      = w.extractLsb' start (n + m) := BitVec.extractLsb'_append_extractLsb'_eq_extractLsb' h

theorem encodeTick_of_fields {w : EventWord} (cls : w.extractLsb' 60 4 = 1) (zero : w.extractLsb' 51 9 = 0) :
    encodeTick (w.extractLsb' 48 3) (w.extractLsb' 32 16) (w.extractLsb' 16 16) (w.extractLsb' 0 16) = w := by
  have packed : w.extractLsb' 60 4 ++ w.extractLsb' 51 9 ++ w.extractLsb' 48 3 ++ w.extractLsb' 32 16
      ++ w.extractLsb' 16 16 ++ w.extractLsb' 0 16 = w := by
    simp [extractLsb'_adjacent]
  rwa [cls, zero] at packed

theorem encodeTclk_of_fields {w : EventWord} (cls : w.extractLsb' 60 4 = 2) (zero : w.extractLsb' 32 28 = 0) :
    encodeTclk (w.extractLsb' 0 32) = w := by
  have packed : w.extractLsb' 60 4 ++ w.extractLsb' 32 28 ++ w.extractLsb' 0 32 = w := by
    simp [extractLsb'_adjacent]
  rwa [cls, zero] at packed

theorem packed_address_fields (w : EventWord) :
    w.extractLsb' 60 4 ++ w.extractLsb' 24 36 ++ w.extractLsb' 16 8 ++ w.extractLsb' 0 16 = w := by
  simp [extractLsb'_adjacent]

theorem encodeWr_of_fields {w : EventWord} (cls : w.extractLsb' 60 4 = 3) (zero : w.extractLsb' 24 36 = 0) :
    encodeWr (w.extractLsb' 16 8) (w.extractLsb' 0 16) = w := by
  have packed := packed_address_fields w
  rwa [cls, zero] at packed

theorem encodeRd_of_fields {w : EventWord} (cls : w.extractLsb' 60 4 = 4) (zero : w.extractLsb' 24 36 = 0)
    (noData : w.extractLsb' 0 16 = 0) : encodeRd (w.extractLsb' 16 8) = w := by
  have packed := packed_address_fields w
  rwa [cls, zero, noData] at packed

/-! ## What each word decodes to -/

/-- Only the class of `NOPEV` is 0x0, and only that of `RESET` is 0xF. -/
theorem ne_nopev_and_reset_of_class {w : EventWord} {cls : BitVec 4} (h : w.extractLsb' 60 4 = cls)
    (other : cls ≠ 0 ∧ cls ≠ 0xF) : w ≠ 0 ∧ w ≠ 0xF000000000000000 := by
  subst h
  exact ⟨fun nopev => other.1 (by rw [nopev]; decide), fun reset => other.2 (by rw [reset]; decide)⟩

theorem decode_encodeTick (code : BitVec 3) (ibus pot per : Word) :
    decode (encodeTick code ibus pot per) = .tick code ibus pot per := by
  obtain ⟨cls, zero, code_eq, ibus_eq, pot_eq, per_eq⟩ := encodeTick_fields code ibus pot per
  generalize encodeTick code ibus pot per = w at *
  obtain ⟨notNopev, notReset⟩ := ne_nopev_and_reset_of_class cls (by decide)
  rw [decode, if_neg notNopev, if_neg notReset, if_pos ⟨cls, zero⟩, code_eq, ibus_eq, pot_eq, per_eq]

theorem decode_encodeTclk (n : DWord) : decode (encodeTclk n) = .tclk n := by
  obtain ⟨cls, zero, n_eq⟩ := encodeTclk_fields n
  generalize encodeTclk n = w at *
  obtain ⟨notNopev, notReset⟩ := ne_nopev_and_reset_of_class cls (by decide)
  rw [decode, if_neg notNopev, if_neg notReset]
  simp [eventClass, cls, zero, n_eq]

theorem decode_encodeRd (addr : BitVec 8) : decode (encodeRd addr) = .rd addr := by
  obtain ⟨cls, zero, noData, addr_eq⟩ := encodeRd_fields addr
  generalize encodeRd addr = w at *
  obtain ⟨notNopev, notReset⟩ := ne_nopev_and_reset_of_class cls (by decide)
  rw [decode, if_neg notNopev, if_neg notReset]
  simp [eventClass, cls, zero, noData, addr_eq]

/-- Each of the six valid forms is excluded by its own clause (rule R65). -/
theorem decode_of_reservedWord {w : EventWord} (reserved : reservedWord w = true) : decode w = .rsvd w := by
  refine decode_cases (fun w i => reservedWord w = true → i = .rsvd w) ?nopev ?reset ?tick ?tclk ?wr ?rd
    (fun _ _ _ => rfl) w reserved
  case nopev | reset => intro no; exact absurd no (by decide)
  case tick | tclk | wr => intro w cls zero no; simp [reservedWord, cls, zero] at no
  case rd => intro w cls zero noData no; simp [reservedWord, cls, zero, noData] at no

theorem decodeCommand_of_reserved {v : Word} (reserved : reservedCommand v = true) : decodeCommand v = .cmdRsvd v := by
  refine decodeCommand_cases (fun v i => reservedCommand v = true → i = .cmdRsvd v) ?_ ?_ ?_ ?_ ?_ ?_ ?_ ?_
    (fun _ _ _ => rfl) v reserved
  all_goals intro no; exact absurd no (by decide)

theorem decodeWrite_tbl8x (lo : BitVec 4) (data : Word) : decodeWrite (0x8#4 ++ lo) data = .wrTbl8x lo data := by
  have named : ∀ lo : BitVec 4, (0x8#4 ++ lo : BitVec 8) ≠ 0 ∧ (0x8#4 ++ lo : BitVec 8) ≠ 1
      ∧ (0x8#4 ++ lo : BitVec 8) ≠ 2 := by decide
  obtain ⟨cmd, ctrl, status⟩ := named lo
  rw [decodeWrite, if_neg cmd, if_neg ctrl, if_neg status]
  simp [extractLsb'_packed_high, extractLsb'_packed_low]

theorem decodeWrite_tbl9x (lo : BitVec 2) (data : Word) : decodeWrite (0x24#6 ++ lo) data = .wrTbl9x lo data := by
  have named : ∀ lo : BitVec 2, (0x24#6 ++ lo : BitVec 8) ≠ 0 ∧ (0x24#6 ++ lo : BitVec 8) ≠ 1
      ∧ (0x24#6 ++ lo : BitVec 8) ≠ 2 ∧ (0x24#6 ++ lo : BitVec 8).extractLsb' 4 4 ≠ 8 := by decide
  obtain ⟨cmd, ctrl, status, tbl8x⟩ := named lo
  rw [decodeWrite, if_neg cmd, if_neg ctrl, if_neg status, if_neg tbl8x]
  simp [extractLsb'_packed_high, extractLsb'_packed_low]

/-! ## The round trips -/

theorem decode_encode {i : Instr} (wf : i.wf = true) : decode (encode i) = i := by
  cases i with
  | nopev | reset => decide
  | tick code ibus pot per => exact decode_encodeTick code ibus pot per
  | tclk n => exact decode_encodeTclk n
  | cmdNop | cmdInit | cmdIdStart | cmdIdHandover | cmdTblLoadConst | cmdTblLoadId | cmdCtrlReset | cmdCtrlFault =>
    exact decode_encodeWr 0x00 _
  | cmdRsvd code => exact (decode_encodeWr 0x00 code).trans (decodeCommand_of_reserved wf)
  | wrCtrl data | wrStatus data | wrTbl94 data => exact decode_encodeWr _ data
  | wrTbl8x lo data => exact (decode_encodeWr _ data).trans (decodeWrite_tbl8x lo data)
  | wrTbl9x lo data => exact (decode_encodeWr _ data).trans (decodeWrite_tbl9x lo data)
  | wrRo addr data =>
    have elsewhere : writable addr = false := by simpa [Instr.wf] using wf
    exact (decode_encodeWr addr data).trans (decodeWrite_of_not_writable data elsewhere)
  | rd addr => exact decode_encodeRd addr
  | rsvd word => exact decode_of_reservedWord wf

theorem decodeCommand_wf_encode (v : Word) :
    (decodeCommand v).wf = true ∧ encode (decodeCommand v) = encodeWr 0x00 v := by
  refine decodeCommand_cases (fun v i => i.wf = true ∧ encode i = encodeWr 0x00 v) ⟨rfl, rfl⟩ ⟨rfl, rfl⟩ ⟨rfl, rfl⟩
    ⟨rfl, rfl⟩ ⟨rfl, rfl⟩ ⟨rfl, rfl⟩ ⟨rfl, rfl⟩ ⟨rfl, rfl⟩ (fun v reserved => ⟨?_, rfl⟩) v
  simpa [Instr.wf, reservedCommand] using reserved

theorem decodeWrite_wf_encode (addr : BitVec 8) (data : Word) :
    (decodeWrite addr data).wf = true ∧ encode (decodeWrite addr data) = encodeWr addr data := by
  refine decodeWrite_cases (fun a d i => i.wf = true ∧ encode i = encodeWr a d) decodeCommand_wf_encode
    (fun _ => ⟨rfl, rfl⟩) (fun _ => ⟨rfl, rfl⟩) (fun _ _ => ⟨rfl, rfl⟩) (fun _ _ => ⟨rfl, rfl⟩) (fun _ => ⟨rfl, rfl⟩)
    (fun a _ elsewhere => ⟨?_, rfl⟩) addr data
  simp [Instr.wf, elsewhere]

/-- Settles O1. -/
theorem decodeInvertsEncode : Obligations.DecodeInvertsEncode := fun _ => decode_encode

/-- Settles O2. -/
theorem encodeInvertsDecode : Obligations.EncodeInvertsDecode := by
  refine decode_cases (fun w i => i.wf = true ∧ encode i = w) ⟨rfl, rfl⟩ ⟨rfl, rfl⟩ ?tick ?tclk ?wr ?rd
    (fun _ reserved => ⟨reserved, rfl⟩)
  case tick => intro w cls zero; exact ⟨rfl, encodeTick_of_fields cls zero⟩
  case tclk => intro w cls zero; exact ⟨rfl, encodeTclk_of_fields cls zero⟩
  case wr =>
    intro w cls zero
    have written := decodeWrite_wf_encode (w.extractLsb' 16 8) (w.extractLsb' 0 16)
    rwa [encodeWr_of_fields cls zero] at written
  case rd => intro w cls zero noData; exact ⟨rfl, encodeRd_of_fields cls zero noData⟩

/-! ## The opcode table (rule R77) -/

/-- A field that a row's mask covers holds the row's bits. -/
theorem field_of_masked {w mask bits : EventWord} (h : w &&& mask = bits) (start len : Nat)
    (covered : mask.extractLsb' start len = BitVec.allOnes len) :
    w.extractLsb' start len = bits.extractLsb' start len := by
  rw [← h, BitVec.extractLsb'_and, covered, BitVec.and_allOnes]

/-- A row of one word. -/
theorem eq_of_masked {w bits : EventWord} (h : w &&& 0xFFFFFFFFFFFFFFFF = bits) : bits = w :=
  h.symm.trans BitVec.and_allOnes

/-- A row of the `WR` format: its mask covers the class and the must-be-zero bits. -/
theorem encodeWr_of_masked {w mask bits : EventWord} {addr : BitVec 8} (h : w &&& mask = bits)
    (form : mask.extractLsb' 24 40 = BitVec.allOnes 40 ∧ bits.extractLsb' 24 40 = 0x3000000000)
    (address : w.extractLsb' 16 8 = addr) : encodeWr addr (w.extractLsb' 0 16) = w := by
  have upper : w.extractLsb' 24 40 = 0x3#4 ++ 0#36 := (field_of_masked h 24 40 form.1).trans form.2
  have packed : w.extractLsb' 24 40 ++ w.extractLsb' 16 8 ++ w.extractLsb' 0 16 = w := by
    simp [extractLsb'_adjacent]
  rwa [upper, address] at packed

/-- The converse of `Laws.EncodeMatches`: the words a row matches are those of the row's own operation. -/
theorem exists_encode_of_matches {w : EventWord} : ∀ {j : Nat} {row : OpcodeRow}, opcodeRows[j]? = some row →
    w &&& row.mask = row.bits → ∃ i : Instr, i.rowIndex = j ∧ encode i = w
  | 0, _, rfl, h => ⟨.nopev, rfl, eq_of_masked h⟩
  | 1, _, rfl, h => ⟨.reset, rfl, eq_of_masked h⟩
  | 2, _, rfl, h => ⟨.tick .., rfl,
      encodeTick_of_fields (field_of_masked h 60 4 (by decide)) (field_of_masked h 51 9 (by decide))⟩
  | 3, _, rfl, h => ⟨.tclk _, rfl,
      encodeTclk_of_fields (field_of_masked h 60 4 (by decide)) (field_of_masked h 32 28 (by decide))⟩
  | 4, _, rfl, h => ⟨.cmdNop, rfl, eq_of_masked h⟩
  | 5, _, rfl, h => ⟨.cmdInit, rfl, eq_of_masked h⟩
  | 6, _, rfl, h => ⟨.cmdIdStart, rfl, eq_of_masked h⟩
  | 7, _, rfl, h => ⟨.cmdIdHandover, rfl, eq_of_masked h⟩
  | 8, _, rfl, h => ⟨.cmdTblLoadConst, rfl, eq_of_masked h⟩
  | 9, _, rfl, h => ⟨.cmdTblLoadId, rfl, eq_of_masked h⟩
  | 10, _, rfl, h => ⟨.cmdCtrlReset, rfl, eq_of_masked h⟩
  | 11, _, rfl, h => ⟨.cmdCtrlFault, rfl, eq_of_masked h⟩
  | 12, _, rfl, h => ⟨.cmdRsvd _, rfl, encodeWr_of_masked h (by decide) (field_of_masked h 16 8 (by decide))⟩
  | 13, _, rfl, h => ⟨.wrCtrl _, rfl, encodeWr_of_masked h (by decide) (field_of_masked h 16 8 (by decide))⟩
  | 14, _, rfl, h => ⟨.wrStatus _, rfl, encodeWr_of_masked h (by decide) (field_of_masked h 16 8 (by decide))⟩
  | 15, _, rfl, h => by
    have upper : w.extractLsb' 20 4 = 0x8#4 := field_of_masked h 20 4 (by decide)
    have address : w.extractLsb' 20 4 ++ w.extractLsb' 16 4 = w.extractLsb' 16 8 := extractLsb'_adjacent w rfl
    rw [upper] at address
    exact ⟨.wrTbl8x .., rfl, encodeWr_of_masked h (by decide) address.symm⟩
  | 16, _, rfl, h => by
    have upper : w.extractLsb' 18 6 = 0x24#6 := field_of_masked h 18 6 (by decide)
    have address : w.extractLsb' 18 6 ++ w.extractLsb' 16 2 = w.extractLsb' 16 8 := extractLsb'_adjacent w rfl
    rw [upper] at address
    exact ⟨.wrTbl9x .., rfl, encodeWr_of_masked h (by decide) address.symm⟩
  | 17, _, rfl, h => ⟨.wrTbl94 _, rfl, encodeWr_of_masked h (by decide) (field_of_masked h 16 8 (by decide))⟩
  | 18, _, rfl, h => ⟨.wrRo .., rfl, encodeWr_of_masked h (by decide) rfl⟩
  | 19, _, rfl, h => ⟨.rd _, rfl,
      encodeRd_of_fields (field_of_masked h 60 4 (by decide)) (field_of_masked h 24 36 (by decide))
        (field_of_masked h 0 16 (by decide))⟩
  | 20, _, rfl, _ => ⟨.rsvd w, rfl, rfl⟩

open Laws.EncodeMatches in
theorem encode_matches : ∀ i : Instr, Statement i
  | .nopev => nopev
  | .reset => reset
  | .tick .. => tick ..
  | .tclk .. => tclk ..
  | .cmdNop => cmdNop
  | .cmdInit => cmdInit
  | .cmdIdStart => cmdIdStart
  | .cmdIdHandover => cmdIdHandover
  | .cmdTblLoadConst => cmdTblLoadConst
  | .cmdTblLoadId => cmdTblLoadId
  | .cmdCtrlReset => cmdCtrlReset
  | .cmdCtrlFault => cmdCtrlFault
  | .cmdRsvd .. => cmdRsvd ..
  | .wrCtrl .. => wrCtrl ..
  | .wrStatus .. => wrStatus ..
  | .wrTbl8x .. => wrTbl8x ..
  | .wrTbl9x .. => wrTbl9x ..
  | .wrTbl94 .. => wrTbl94 ..
  | .wrRo .. => wrRo ..
  | .rd .. => rd ..
  | .rsvd .. => rsvd ..

theorem rowIndex_lt (i : Instr) : i.rowIndex < opcodeRows.length := by
  obtain ⟨_, atRow, _⟩ := encode_matches i
  exact (List.getElem?_eq_some_iff.1 atRow).1

theorem decodeCommand_rowIndex_le (v : Word) : (decodeCommand v).rowIndex ≤ 12 :=
  decodeCommand_cases (fun _ i => i.rowIndex ≤ 12) (by decide) (by decide) (by decide) (by decide) (by decide)
    (by decide) (by decide) (by decide) (fun _ _ => le_rfl) v

theorem decodeWrite_rowIndex_le (addr : BitVec 8) (data : Word) : (decodeWrite addr data).rowIndex ≤ 18 := by
  refine decodeWrite_cases (fun _ _ i => i.rowIndex ≤ 18) ?cmd ?ctrl ?status ?tbl8x ?tbl9x ?tbl94 ?ro addr data
  case cmd => intro d; exact (decodeCommand_rowIndex_le d).trans (by decide)
  all_goals intros; simp [Instr.rowIndex]

/-- The word of an operation, well-formed or not, decodes to an operation of its row or of an earlier one: the three rows
that take "any other" value stand after the rows of the values they exclude. -/
theorem decode_encode_rowIndex_le (i : Instr) : (decode (encode i)).rowIndex ≤ i.rowIndex := by
  by_cases wf : i.wf = true
  · rw [decode_encode wf]
  cases i with
  | cmdRsvd code => rw [encode, decode_encodeWr]; exact decodeCommand_rowIndex_le code
  | wrRo addr data => rw [encode, decode_encodeWr]; exact decodeWrite_rowIndex_le addr data
  | rsvd word => exact Nat.le_of_lt_succ (rowIndex_lt _)
  | _ => exact absurd rfl wf

/-- Settles O3: the row of the decoded operation matches, and no earlier row does. -/
theorem decodeTakesTheFirstTableRow : Obligations.DecodeTakesTheFirstTableRow := by
  intro w
  obtain ⟨row, atRow, masked⟩ := encode_matches (decode w)
  rw [(encodeInvertsDecode w).2] at masked
  obtain ⟨inTable, row_eq⟩ := List.getElem?_eq_some_iff.1 atRow
  refine ((List.findIdx_eq inTable).2 ⟨?row, fun j earlier => ?earlier⟩).symm
  case row => rw [row_eq]; exact beq_iff_eq.2 masked
  case earlier =>
    refine beq_eq_false_iff_ne.2 fun matched => ?_
    obtain ⟨i, rfl, rfl⟩ := exists_encode_of_matches (List.getElem?_eq_getElem (earlier.trans inTable)) matched
    exact absurd earlier (decode_encode_rowIndex_le i).not_gt

/-! ## The reserved words (rule R65) -/

theorem decode_eq_rsvd_iff {w : EventWord} : decode w = .rsvd w ↔ reservedWord w = true := by
  refine ⟨fun isRsvd => ?_, decode_of_reservedWord⟩
  have wf := (encodeInvertsDecode w).1
  rwa [isRsvd] at wf

theorem eq_resetWord_iff {w : EventWord} :
    w = 0xF000000000000000 ↔ w.extractLsb' 60 4 = 0xF ∧ w.extractLsb' 0 60 = 0 := by
  constructor
  · rintro rfl; decide
  · rintro ⟨cls, zero⟩
    have packed : w.extractLsb' 60 4 ++ w.extractLsb' 0 60 = w := by simp [extractLsb'_adjacent]
    rw [cls, zero] at packed
    exact packed.symm

theorem eventClass_cases : ∀ cls : BitVec 4, cls = 0 ∨ cls = 0xF ∨ cls = 1 ∨ cls = 2 ∨ cls = 3 ∨ cls = 4
    ∨ (5 ≤ cls.toNat ∧ cls.toNat ≤ 0xE) := by decide

/-- Rule R65, class by class. -/
theorem reservedWord_iff {w : EventWord} : reservedWord w = true ↔
    (5 ≤ (w.extractLsb' 60 4).toNat ∧ (w.extractLsb' 60 4).toNat ≤ 0xE)
      ∨ (w.extractLsb' 60 4 = 0x0 ∧ w ≠ 0)
      ∨ (w.extractLsb' 60 4 = 0xF ∧ w.extractLsb' 0 60 ≠ 0)
      ∨ (w.extractLsb' 60 4 = 0x1 ∧ w.extractLsb' 51 9 ≠ 0)
      ∨ (w.extractLsb' 60 4 = 0x2 ∧ w.extractLsb' 32 28 ≠ 0)
      ∨ (w.extractLsb' 60 4 = 0x3 ∧ w.extractLsb' 24 36 ≠ 0)
      ∨ (w.extractLsb' 60 4 = 0x4 ∧ (w.extractLsb' 24 36 ≠ 0 ∨ w.extractLsb' 0 16 ≠ 0)) := by
  have nopev : w = 0 ↔ w.extractLsb' 60 4 = 0 ∧ w = 0 := ⟨by rintro rfl; decide, And.right⟩
  have unfolded : reservedWord w = true ↔ ¬((w.extractLsb' 60 4 = 0 ∧ w = 0)
      ∨ (w.extractLsb' 60 4 = 0xF ∧ w.extractLsb' 0 60 = 0)
      ∨ (w.extractLsb' 60 4 = 1 ∧ w.extractLsb' 51 9 = 0)
      ∨ (w.extractLsb' 60 4 = 2 ∧ w.extractLsb' 32 28 = 0)
      ∨ (w.extractLsb' 60 4 = 3 ∧ w.extractLsb' 24 36 = 0)
      ∨ (w.extractLsb' 60 4 = 4 ∧ w.extractLsb' 24 36 = 0 ∧ w.extractLsb' 0 16 = 0)) := by
    rw [← nopev, ← eq_resetWord_iff]
    simp only [reservedWord, Bool.not_eq_true', ← Bool.not_eq_true, Bool.or_eq_true, Bool.and_eq_true, beq_iff_eq,
      or_assoc, and_assoc]
  rw [unfolded]
  obtain cls | cls | cls | cls | cls | cls | ⟨lo, hi⟩ := eventClass_cases (w.extractLsb' 60 4)
  iterate 6 · simp [cls, imp_iff_not_or]
  · have other : ∀ k : BitVec 4, k.toNat < 5 ∨ 0xE < k.toNat → w.extractLsb' 60 4 ≠ k := by rintro k hk rfl; omega
    exact iff_of_true (by simp [other]) (.inl ⟨lo, hi⟩)

/-- Settles O5. -/
theorem malformedWordsOnlyRaiseBadev : Obligations.MalformedWordsOnlyRaiseBadev :=
  fun _ _ => ⟨reservedWord_iff.symm.trans decode_eq_rsvd_iff.symm, rfl⟩

/-! ## The worked words (rules R80 and R81) -/

theorem decode_of_encode_eq {i : Instr} {w : EventWord} (wf : i.wf = true) (h : encode i = w) : decode w = i :=
  h ▸ decode_encode wf

/-- Settles O4: each word is the one the encoder gives for its event. -/
theorem workedWordsDecode : Obligations.WorkedWordsDecode :=
  ⟨decode_of_encode_eq rfl rfl, decode_of_encode_eq rfl rfl, decode_of_encode_eq rfl rfl, decode_of_encode_eq rfl rfl,
    decode_of_encode_eq rfl rfl, decode_of_encode_eq rfl rfl, decode_of_encode_eq rfl rfl, decode_of_encode_eq rfl rfl,
    decode_of_encode_eq rfl rfl⟩

end Sys2Proof
end

section
/-! SUPPORT. The arithmetic primitives on int16 operands, the targets they scale, and the offset calibration over a run
of ticks. After each part the statement it settles. -/

namespace Sys2Proof.Machine

/-! ## The primitives of rules R92 to R96 -/

/-- `asr` is the floor of the quotient for every sign (rule R92). -/
theorem asr_floor (v : Int) (n : Nat) : asr v n * 2 ^ n ≤ v ∧ v < (asr v n + 1) * 2 ^ n :=
  ⟨Int.ediv_mul_le v (by positivity), Int.lt_ediv_add_one_mul_self v (by positivity)⟩

/-- With inverted bounds `clamp` still answers one of them, the upper one exactly above itself (rule R94). -/
theorem clamp_inverted {v lo hi : Int} (inverted : lo > hi) : clamp v lo hi = if v > hi then hi else lo := by
  unfold clamp
  split
  · rfl
  · exact if_pos (by omega)

/-- Settles O54. -/
theorem shiftClampAndScale : Obligations.ShiftClampAndScale :=
  ⟨asr_floor, fun _ _ _ => ⟨clamp_range, clamp_of_range, clamp_inverted⟩, duty_range⟩

/-- The product of two int16 values; only the two smallest values reach its upper bound. -/
theorem int16_mul_range {a b : Int} (ha : -32768 ≤ a ∧ a ≤ 32767) (hb : -32768 ≤ b ∧ b ≤ 32767) :
    -1073709056 ≤ a * b ∧ a * b ≤ 1073741824 ∧ (¬(a = -32768 ∧ b = -32768) → a * b < 1073741824) := by
  obtain nonneg | neg := le_or_gt 0 b
  · have lower : -32768 * b ≤ a * b := Int.mul_le_mul_of_nonneg_right ha.1 nonneg
    have upper : a * b ≤ 32767 * b := Int.mul_le_mul_of_nonneg_right ha.2 nonneg
    omega
  · have lower : 32767 * b ≤ a * b := Int.mul_le_mul_of_nonpos_right ha.2 neg.le
    have upper : a * b ≤ -32768 * b := Int.mul_le_mul_of_nonpos_right ha.1 neg.le
    refine ⟨by omega, by omega, fun notBoth => ?_⟩
    obtain rfl | other := eq_or_ne b (-32768) <;> omega

/-- Below 2^30 the shifted product of two int16 values is an int16, so `qmul` does not saturate (rule R93). -/
theorem qmul_of_range {a b : Int} (low : -1073709056 ≤ a * b) (high : a * b < 1073741824) :
    qmul a b = asr (a * b) 15 := by
  have floor := asr_floor (a * b) 15
  exact sat16_of_range (by omega) (by omega)

theorem qmul_comm (a b : Int) : qmul a b = qmul b a := by rw [qmul, qmul, Int.mul_comm]

/-- Settles O53. -/
theorem qmulSaturatesInExactlyOneCase : Obligations.QmulSaturatesInExactlyOneCase := by
  intro a b
  obtain ⟨low, high, strict⟩ := int16_mul_range (toInt16_range a) (toInt16_range b)
  refine ⟨⟨low, high⟩, ?_, fun notBoth => qmul_of_range low (strict notBoth), qmul_comm ..⟩
  rintro ⟨minA, minB⟩
  rw [minA, minB]
  decide

/-! ## The targets -/

/-- Without the defects of the speed and current limits, those are in order and not negative (rule R176). -/
theorem limits_of_no_defect {c : Config} (sound : cfgCheck c = false) :
    0 ≤ c.minSpeed.toInt ∧ c.minSpeed.toInt ≤ c.maxSpeed.toInt ∧ 0 < c.ratedCurrent.toInt := by
  simp only [cfgCheck, Bool.or_eq_false_iff, decide_eq_false_iff_not, not_lt, not_le] at sound
  obtain ⟨⟨⟨⟨⟨⟨⟨-, speeds⟩, rated⟩, -⟩, -⟩, -⟩, -⟩, -⟩ := sound
  exact ⟨speeds.1, speeds.2, rated⟩

/-- The interpolation between two limits in order (rule R130). -/
theorem targetSpeed_range {c : Config} {ctrlIn : Word} (ordered : c.minSpeed.toInt ≤ c.maxSpeed.toInt)
    (nonneg : 0 ≤ ctrlIn.toInt) :
    c.minSpeed.toInt ≤ targetSpeed c ctrlIn ∧ targetSpeed c ctrlIn ≤ c.maxSpeed.toInt
    ∧ (c.minSpeed.toInt < c.maxSpeed.toInt → targetSpeed c ctrlIn < c.maxSpeed.toInt) := by
  have span := scale15_below (a := c.maxSpeed.toInt - c.minSpeed.toInt) (by omega) nonneg (toInt16_range ctrlIn).2
  unfold targetSpeed
  omega

/-- The scaled current (rule R130). -/
theorem targetCurrent_range {c : Config} {ctrlIn : Word} (positive : 0 < c.ratedCurrent.toInt)
    (nonneg : 0 ≤ ctrlIn.toInt) : 0 ≤ targetCurrent c ctrlIn ∧ targetCurrent c ctrlIn < c.ratedCurrent.toInt := by
  obtain ⟨low, -, below⟩ := scale15_below positive.le nonneg (toInt16_range ctrlIn).2
  exact ⟨low, below positive⟩

/-- Settles O44: both targets are at most a limit, which is an int16. -/
theorem targetsStayInTheirRanges : Obligations.TargetsStayInTheirRanges := by
  intro c s sound nonneg
  obtain ⟨minNonneg, ordered, ratedPos⟩ := limits_of_no_defect sound
  obtain ⟨speedLow, speedHigh, speedBelow⟩ := targetSpeed_range ordered nonneg
  obtain ⟨currentLow, currentBelow⟩ := targetCurrent_range ratedPos nonneg
  have maxFits := toInt16_range c.maxSpeed
  have ratedFits := toInt16_range c.ratedCurrent
  refine ⟨?_, speedLow, speedBelow, fun equal => by omega, ?_, currentLow, currentBelow⟩
  · rw [getInputs_speedLoop_ctx_tgtSpeed]
    exact fitSigned_toInt16 _ (by omega) (by omega)
  · rw [getInputs_currentLoop_ctx_tgtCurrent]
    exact fitSigned_toInt16 _ (by omega) (by omega)

/-! ## One sample of the offset calibration -/

theorem curOffs_cur_offset (c : Config) (s : State) : (curOffs c s).cur.offset
    = if (curOffs c s).cur.offsCnt.toNat = offsSamples c then
        BitVec.ofInt 16 (sat16 (asr (curOffs c s).cur.offsAcc.toInt c.offsShift))
      else s.cur.offset := by
  simp only [curOffs_eq, decide_eq_true_eq]

/-- While the calibration runs, the count and the sum are exact (rule R125). -/
theorem curOffs_exact {c : Config} {s : State} (shift : c.offsShift ≤ 15) (h : OffsetInRange c s)
    (running : s.cur.offsCnt.toNat < 2 ^ c.offsShift) :
    (curOffs c s).cur.offsCnt.toNat = s.cur.offsCnt.toNat + 1
    ∧ (curOffs c s).cur.offsAcc.toInt = s.cur.offsAcc.toInt + s.latch.ibusRaw.toInt := by
  obtain ⟨-, -, low, high⟩ := h shift
  have small : 2 ^ c.offsShift ≤ 2 ^ 15 := Nat.pow_le_pow_right (by omega) shift
  have sample := toInt16_range s.latch.ibusRaw
  have count : ((curOffs c s).cur.offsCnt.toNat : Int) = s.cur.offsCnt.toNat + 1 := by
    rw [curOffs_cur_offsCnt]
    exact fitUnsigned_toNat .offsCnt (by omega) (by omega)
  refine ⟨by omega, ?_⟩
  rw [curOffs_cur_offsAcc]
  exact fitSigned_toInt32 .offsAcc (by omega) (by omega)

/-- The average of 2^n int16 values is an int16. -/
theorem average_int16_range {sum : Int} {n : Nat} (low : -(32768 * 2 ^ n) ≤ sum) (high : sum ≤ 32767 * 2 ^ n) :
    -32768 ≤ asr sum n ∧ asr sum n ≤ 32767 := by
  have positive : (0 : Int) < 2 ^ n := by positivity
  exact ⟨(Int.le_ediv_iff_mul_le positive).2 (by linarith), Int.ediv_le_of_le_mul positive high⟩

/-! ## The calibration over a run of ticks -/

theorem tick_cur (c : Config) (code : BitVec 3) (ibus pot per : Word) (s : State) :
    (tick c code ibus pot per s).cur = (tickFront c code ibus pot per s).cur := by
  cases h : s.ident.active with
  | false => rw [tick_inactive c code ibus pot per s h, ctrlStep_cur]
  | true => rw [tick_active c code ibus pot per s h, idStep_cur]

theorem tick_flags_offsDone (c : Config) (code : BitVec 3) (ibus pot per : Word) (s : State) :
    (tick c code ibus pot per s).flags.offsDone = (tickFront c code ibus pot per s).flags.offsDone := by
  cases h : s.ident.active with
  | false => rw [tick_inactive c code ibus pot per s h, ctrlStep_flags]
  | true => rw [tick_active c code ibus pot per s h, idStep_flags_offsDone]

theorem runTicks_concat (c : Config) (xs : List TickInput) (x : TickInput) (s : State) :
    runTicks c (xs ++ [x]) s = tick c x.code x.ibus x.pot x.per (runTicks c xs s) := by
  induction xs generalizing s with
  | nil => rfl
  | cons y ys ih => exact ih _

theorem ibusSum_concat (xs : List TickInput) (x : TickInput) : ibusSum (xs ++ [x]) = ibusSum xs + x.ibus.toInt := by
  simp [ibusSum]

/-- The bus-current unit after the ticks `xs` of a calibration that began with offset `before` (rules R125 and R127). -/
structure Calibrating (c : Config) (before : Word) (xs : List TickInput) (s : State) : Prop where
  range : OffsetInRange c s
  count : s.cur.offsCnt.toNat = xs.length
  sum : s.cur.offsAcc.toInt = ibusSum xs
  average : xs.length = 2 ^ c.offsShift → s.cur.offset.toInt = ibusSum xs / 2 ^ c.offsShift
  untouched : xs.length < 2 ^ c.offsShift → s.cur.offset = before

namespace Calibrating

variable {c : Config} {before : Word} {xs : List TickInput} {s t : State}

/-- A calibration with no sample yet. -/
theorem fresh (notDone : s.flags.offsDone = false) (acc : s.cur.offsAcc = 0) (cnt : s.cur.offsCnt = 0) :
    Calibrating c s.cur.offset [] s where
  range := fun _ => by simp [notDone, acc, cnt, (Nat.two_pow_pos c.offsShift).ne]
  count := by simp [cnt]
  sum := by simp [acc, ibusSum]
  average := fun full => absurd full (Nat.two_pow_pos c.offsShift).ne
  untouched := fun _ => rfl

/-- Only the bus-current unit's elements and `OFFS_DONE` matter. -/
theorem of_same (h : Calibrating c before xs s) (cur : t.cur = s.cur) (done : t.flags.offsDone = s.flags.offsDone) :
    Calibrating c before xs t where
  range := by unfold OffsetInRange; rw [cur, done]; exact h.range
  count := cur ▸ h.count
  sum := cur ▸ h.sum
  average := cur ▸ h.average
  untouched := cur ▸ h.untouched

theorem offsDone_iff (h : Calibrating c before xs s) (shift : c.offsShift ≤ 15) :
    s.flags.offsDone = true ↔ xs.length = 2 ^ c.offsShift := by
  obtain ⟨-, done, -, -⟩ := h.range shift
  rw [done, h.count]

/-- One more latched sample, before the calibration is complete. -/
theorem curStep (h : Calibrating c before xs s) (shift : c.offsShift ≤ 15) (room : xs.length < 2 ^ c.offsShift)
    {x : TickInput} (latched : s.latch.ibusRaw = x.ibus) : Calibrating c before (xs ++ [x]) (curStep c s) := by
  have notDone : s.flags.offsDone = false := by
    rw [← Bool.not_eq_true, h.offsDone_iff shift]
    exact room.ne
  have range := offsetInRange_curStep h.range
  rw [curStep_uncalibrated c s notDone] at range ⊢
  obtain ⟨count, sum⟩ := curOffs_exact shift h.range (h.count ▸ room)
  rw [h.count] at count
  rw [h.sum, latched, ← ibusSum_concat] at sum
  obtain ⟨-, -, low, high⟩ := range shift
  refine ⟨range, by simpa using count, sum, fun full => ?_, fun short => ?_⟩
  · have complete : (curOffs c s).cur.offsCnt.toNat = offsSamples c := by simpa [count, offsSamples] using full
    have scaled : ((curOffs c s).cur.offsCnt.toNat : Int) = 2 ^ c.offsShift := by
      rw [complete, offsSamples, Nat.cast_pow, Nat.cast_ofNat]
    rw [scaled] at low high
    obtain ⟨averageLow, averageHigh⟩ := average_int16_range low high
    rw [curOffs_cur_offset, if_pos complete, sat16_of_range averageLow averageHigh,
      toInt_ofInt16 averageLow averageHigh, sum, asr_def]
  · have incomplete : (curOffs c s).cur.offsCnt.toNat ≠ offsSamples c := by simpa [count, offsSamples] using short.ne
    rw [curOffs_cur_offset, if_neg incomplete, h.untouched room]

/-- The other units of a tick leave the calibration alone. -/
theorem tick (h : Calibrating c before xs s) (shift : c.offsShift ≤ 15) (room : xs.length < 2 ^ c.offsShift)
    (x : TickInput) : Calibrating c before (xs ++ [x]) (tick c x.code x.ibus x.pot x.per s) := by
  have measured : Calibrating c before xs
      (speedCalc c (hallHandler c x.code (latchInputs x.ibus x.pot x.per s))) := h.of_same (by simp) (by simp)
  exact (measured.curStep shift room (by simp)).of_same (tick_cur ..) (tick_flags_offsDone ..)

/-- By induction on the ticks, the last one first. -/
theorem runTicks (h : Calibrating c before [] s) (shift : c.offsShift ≤ 15) (xs : List TickInput)
    (room : xs.length ≤ 2 ^ c.offsShift) : Calibrating c before xs (runTicks c xs s) := by
  induction xs using List.reverseRecOn with
  | nil => exact h
  | append_singleton xs x ih =>
    rw [List.length_append, List.length_singleton] at room
    rw [runTicks_concat]
    exact (ih (by omega)).tick shift (by omega) x

end Calibrating

/-- Settles O34. -/
theorem offsetIsTheAverageOfTheFirstSamples : Obligations.OffsetIsTheAverageOfTheFirstSamples := by
  intro c xs s shift notDone acc cnt room
  have after := (Calibrating.fresh notDone acc cnt).runTicks shift xs room
  exact ⟨after.offsDone_iff shift, after.sum, after.average, after.untouched⟩

end Sys2Proof.Machine
end

section
/-! SUPPORT. One update of a PI bank (41_pi_controller.md): its five steps, the bounds and the sign of the excess, and the
update at rest. Each part ends with the statement it settles. -/

namespace Sys2Proof.Machine

/-! ## The five steps (rule R102) -/

/-- Settles O45. -/
theorem piUpdateFollowsTheFiveSteps : Obligations.PiUpdateFollowsTheFiveSteps := by
  rintro b _ _ _ _ rfl rfl rfl rfl
  exact ⟨piUpdate_integ b, piUpdate_out b, piUpdate_exc b, rfl⟩

/-! ## The bounds and the excess (rule R103) -/

/-- Saturation keeps the sign (rule R90). -/
theorem sat16_sign (v : Int) : (sat16 v = 0 ↔ v = 0) ∧ (sat16 v < 0 ↔ v < 0) ∧ (sat16 v > 0 ↔ v > 0) := by
  unfold sat16; split <;> [omega; split] <;> omega

/-- With bounds in order, what `clamp` adds to a value is negative exactly above the upper bound, positive exactly below
the lower one (rule R94). -/
theorem clamp_excess_sign {v lo hi : Int} (ordered : lo ≤ hi) :
    (clamp v lo hi - v = 0 ↔ lo ≤ v ∧ v ≤ hi) ∧ (clamp v lo hi - v < 0 ↔ v > hi) ∧ (clamp v lo hi - v > 0 ↔ v < lo) := by
  unfold clamp; split <;> [omega; split] <;> omega

/-- Settles O46: the integrator and the output are clamped, and the stored excess has the sign of what the clamp added. -/
theorem piUpdateStaysWithinItsBounds : Obligations.PiUpdateStaysWithinItsBounds := by
  intro b ordered
  obtain ⟨within, above, below⟩ := clamp_excess_sign (v := piUnclamped b) ordered
  obtain ⟨zero, negative, positive⟩ := sat16_sign (piOutput b - piUnclamped b)
  rw [piUpdate_out, piUpdate_integ, piUpdate_exc]
  exact ⟨clamp_range ordered, clamp_range ordered, zero.trans within, negative.trans above, positive.trans below⟩

/-! ## The update at rest (90_conflicts.md C3) -/

theorem qmul_zero_left (a : Int) : qmul 0 a = 0 := by simp [qmul, asr_def, sat16]

theorem piError_eq_zero {b : PiBank} (h : b.ref = b.meas) : piError b = 0 := by simp [piError, h, sat16]

/-- With zero error and no stored excess both increments of step 3 vanish. -/
theorem piIntegral_of_rest {b : PiBank} (err : piError b = 0) (exc : b.exc = 0)
    (low : b.outMin.toInt ≤ b.integ.toInt) (high : b.integ.toInt ≤ b.outMax.toInt) : piIntegral b = b.integ.toInt := by
  simp [piIntegral, err, exc, qmul_zero_left, clamp_of_range low high]

/-- Settles O47: the integrator passes steps 3 to 5 unchanged, so the clamp leaves no excess. -/
theorem piHoldsAtZeroError : Obligations.PiHoldsAtZeroError := by
  intro b same exc low high
  have err := piError_eq_zero same
  have integral := piIntegral_of_rest err exc low high
  have unclamped : piUnclamped b = b.integ.toInt := by rw [piUnclamped, err, qmul_zero_left, integral, Int.zero_add]
  have output : piOutput b = b.integ.toInt := by rw [piOutput, unclamped, clamp_of_range low high]
  have noExcess : BitVec.ofInt 16 (sat16 (piOutput b - piUnclamped b)) = b.exc := by
    rw [output, unclamped, Int.sub_self, exc]; rfl
  rw [piUpdate, noExcess, integral, output, BitVec.ofInt_toInt]

end Sys2Proof.Machine
end

section
/-! SUPPORT. The timer, the hall estimator and the speed filter of a whole tick (42_hall_speed.md): the unit that runs last writes
none of their elements, so each is what the handler or the filter leaves. Each part ends with the statements it settles. -/

namespace Sys2Proof.Machine

/-! ## The timer (rule R114) -/

/-- All `TCLK` does: it writes the timer alone. -/
theorem tclk_eq (n : DWord) (s : State) :
    tclk n s = { s with hall := { s.hall with tmr := if s.hall.tmrRun then s.hall.tmr + n else s.hall.tmr } } := by
  unfold tclk
  split <;> rfl

/-- Settles O26. -/
theorem tclkAdvancesTheRunningTimer : Obligations.TclkAdvancesTheRunningTimer := by
  intro n s
  refine ⟨_, exec_eq_next .., ?_⟩
  rw [eventEffect, tclk_eq]
  refine ⟨?_, rfl⟩
  cases running : s.hall.tmrRun with
  | false => rfl
  | true => exact BitVec.toNat_add ..

/-! ## The hall estimator (rules R110 to R113) -/

theorem tick_hall (c : Config) (code : BitVec 3) (ibus pot per : Word) (s : State) :
    (tick c code ibus pot per s).hall = (hallHandler c code (latchInputs ibus pot per s)).hall := by
  rw [← tickFront_hall]
  cases h : s.ident.active with
  | false => rw [tick_inactive c code ibus pot per s h, ctrlStep_hall]
  | true => rw [tick_active c code ibus pot per s h, idStep_hall]

theorem tick_flags_tmrErr (c : Config) (code : BitVec 3) (ibus pot per : Word) (s : State) :
    (tick c code ibus pot per s).flags.tmrErr = (hallHandler c code (latchInputs ibus pot per s)).flags.tmrErr := by
  rw [← tickFront_flags_tmrErr]
  cases h : s.ident.active with
  | false => rw [tick_inactive c code ibus pot per s h, ctrlStep_flags]
  | true => rw [tick_active c code ibus pot per s h, idStep_flags_tmrErr]

/-- After the handler has read the code, the identifier's reading of the same code raises `HALLFAIL` no more. -/
theorem idVector_flags_hallFail (c : Config) {code : BitVec 3} (v : Fin 6) {s : State}
    (read : illegalCode code = true → s.flags.hallFail = true) :
    (idVector c code v s).flags.hallFail = s.flags.hallFail := by
  by_cases counts : s.ident.icnt.toNat + 1 < c.idInterval.toNat
  · rw [idVector_counts c code v s counts, idDrive_flags]
  · rw [idVector_reads c code v s counts, idReading_eq, idDrive_flags]
    cases illegal : illegalCode code with
    | false => exact Bool.or_false _
    | true => rw [read illegal]; rfl

theorem idStep_flags_hallFail (c : Config) {code : BitVec 3} {s : State}
    (read : illegalCode code = true → s.flags.hallFail = true) :
    (idStep c code s).flags.hallFail = s.flags.hallFail := by
  obtain ⟨-, e⟩ | ⟨v, -, ⟨-, e⟩ | ⟨-, e⟩⟩ := idStep_cases c code s
  all_goals rw [e]
  · rw [idComplete_flags, setFlag_idDone]
  · rw [idComplete_flags, setFlag_idDone, idVector_flags_hallFail c v read]
  · exact idVector_flags_hallFail c v read

theorem tick_flags_hallFail (c : Config) (code : BitVec 3) (ibus pot per : Word) (s : State) :
    (tick c code ibus pot per s).flags.hallFail = (s.flags.hallFail || illegalCode code) := by
  rw [← tickFront_flags_hallFail c code ibus pot per s]
  cases h : s.ident.active with
  | false => rw [tick_inactive c code ibus pot per s h, ctrlStep_flags]
  | true =>
    rw [tick_active c code ibus pot per s h, idStep_flags_hallFail]
    intro illegal
    rw [tickFront_flags_hallFail, illegal, Bool.or_true]

/-- Settles O30. -/
theorem seedTickAdoptsThePins : Obligations.SeedTickAdoptsThePins := by
  intro code ibus pot per s unseeded
  refine ⟨_, exec_eq_next .., ?_⟩
  rw [eventEffect, tick_hall, tick_flags_hallFail, tick_flags_tmrErr,
    hallHandler_seed _ code (latchInputs ibus pot per s) unseeded]
  exact ⟨rfl, rfl, rfl⟩

/-- The stop countdown is a subtraction that stops at 0 (rule R112, step (d)). -/
theorem countdown_eq (n : Word) : (if n.toNat > 0 then n - 1 else n) = BitVec.ofNat 16 (n.toNat - 1) := by
  split <;> bv_omega

/-- Settles O31. -/
theorem hallTickDetectsEdges : Obligations.HallTickDetectsEdges := by
  intro code ibus pot per s seeded unchanged
  refine ⟨_, exec_eq_next .., ?_⟩
  rw [eventEffect, tick_hall, tick_flags_hallFail, tick_flags_tmrErr]
  refine ⟨fun edge => ?_, fun same => ?_, rfl⟩
  · rw [hallHandler_edge _ code (latchInputs ibus pot per s) seeded unchanged edge]
    exact ⟨rfl, rfl⟩
  · subst same
    have noEdge := hallHandler_noEdge Config.cfg (latchInputs ibus pot per s) seeded unchanged
    rw [countdown_eq, latchInputs_hall] at noEdge
    rw [noEdge]
    exact ⟨rfl, rfl⟩

/-! ## The speed (rules R115 and R117) -/

/-- Settles O32. -/
theorem speedFilterIsExact : Obligations.SpeedFilterIsExact := by
  intro c s shift average bound
  have room : FilterInRange c s.spd := fun _ => ⟨average, bound⟩
  obtain ⟨acc, avg, -⟩ := maStep_exact shift room
  obtain ⟨-, bound'⟩ := filterInRange_speedCalc room shift
  rw [speedCalc_spd_maAcc] at bound'
  rw [speedCalc_spd_maAvg, speedCalc_spd_maAcc]
  exact ⟨average ▸ Nat.div_le_self .., acc, avg, bound'⟩

theorem tick_spd (c : Config) (code : BitVec 3) (ibus pot per : Word) (s : State) :
    (tick c code ibus pot per s).spd = (speedCalc c (hallHandler c code (latchInputs ibus pot per s))).spd := by
  rw [← tickFront_spd]
  cases h : s.ident.active with
  | false => rw [tick_inactive c code ibus pot per s h, ctrlStep_spd]
  | true => rw [tick_active c code ibus pot per s h, idStep_spd]

theorem speedOf_toNat (c : Config) (s : State) : (speedOf c s).toNat =
    if s.hall.stopCnt = 0 then 0
    else if s.spd.maAvg = 0 then s.spd.speed.toNat
    else min (c.speedMult.toNat / s.spd.maAvg.toNat) 32767 := by
  unfold speedOf udiv
  by_cases stop : s.hall.stopCnt = 0
  · rw [if_pos stop, if_pos stop]; rfl
  · rw [if_neg stop, if_neg stop]
    by_cases noAverage : s.spd.maAvg = 0
    · rw [if_neg (not_not_intro noAverage), if_pos noAverage]
    · rw [if_pos noAverage, if_neg noAverage, BitVec.toNat_ofNat, Nat.mod_eq_of_lt (by omega)]

/-- The speed after `SPEED_CALC`, from the average and the countdown it leaves. -/
theorem speedCalc_spd_speed_toNat (c : Config) (s : State) : (speedCalc c s).spd.speed.toNat =
    if s.hall.stopCnt = 0 then 0
    else if (speedCalc c s).spd.maAvg = 0 then s.spd.speed.toNat
    else min (c.speedMult.toNat / (speedCalc c s).spd.maAvg.toNat) 32767 := by
  rw [speedCalc_spd_maAvg, ← maStep_hall c s, ← maStep_spd_speed c s]
  exact speedOf_toNat c (maStep c s)

/-- Settles O33. -/
theorem speedAfterATick : Obligations.SpeedAfterATick := by
  intro code ibus pot per s
  refine ⟨_, exec_eq_next .., ?_⟩
  rw [eventEffect, tick_spd, tick_hall, speedCalc_spd_speed_toNat, hallHandler_spd, latchInputs_spd]

end Sys2Proof.Machine
end

section
/-! SUPPORT. `CTRL_STATE` after each event, by the table of rule R141, and with it the entries to FAULT (rule R190). After it the
statement on those entries. -/

namespace Sys2Proof.Machine

/-! ## The table of rule R141 -/

theorem tclk_ctrlState (n : DWord) (s : State) : (tclk n s).ctrlState = s.ctrlState := by rw [tclk_eq]

theorem tblLoadId_ctrlState (s : State) : (tblLoadId s).ctrlState = s.ctrlState := by
  obtain ⟨-, refused⟩ | ⟨-, loaded⟩ := tblLoadId_cases s
  · rw [refused, raise_ctrlState]
  · rw [loaded]

theorem idHandover_ctrlState (s : State) : (idHandover s).ctrlState = s.ctrlState := by
  obtain ⟨-, refused⟩ | ⟨-, ended⟩ := idHandover_cases s
  · rw [refused, raise_ctrlState]
  · rw [ended]

theorem writeRunTable_ctrlState (a : BitVec 8) (v : Word) (s : State) :
    (writeRunTable a v s).ctrlState = s.ctrlState := by
  unfold writeRunTable
  split <;> rfl

theorem idStart_ctrlState (c : Config) (s : State) :
    (idStart c s).ctrlState = if s.ctrlState.toNat < 5 then stInit else s.ctrlState := by
  obtain ⟨faulted, refused⟩ | ⟨sound, started⟩ := idStart_cases c s
  · rw [refused, raise_ctrlState, if_neg (by omega)]
  · rw [started, parkInInit_ctrlState, if_pos sound]

theorem ctrlReset_ctrlState (s : State) : (ctrlReset s).ctrlState
    = if s.flags.cfgErr = false ∧ s.ident.active = false then stInit else s.ctrlState := by
  obtain ⟨barred, refused⟩ | ⟨sound, idle, parked⟩ := ctrlReset_cases s
  · rw [refused, raise_ctrlState, if_neg (by simpa [Decidable.imp_iff_not_or] using barred)]
  · rw [parked, parkInInit_ctrlState, if_pos ⟨sound, idle⟩]

/-- The rows of a step of the control machine. -/
theorem ctrlStep_ctrlState (c : Config) {s : State} (idle : s.ident.active = false) :
    (ctrlStep c s).ctrlState = ctrlStateAfterTick s := by
  unfold ctrlStateAfterTick
  obtain ⟨st, e⟩ | ⟨st, e⟩ | ⟨st, run, e⟩ | ⟨st, run, e⟩ | ⟨st, run, e⟩ | ⟨st, run, e⟩ | ⟨st, run, e⟩ | ⟨st, run, e⟩ :=
    ctrlStep_cases c s
  · simp [e, idle, st.le]
  · simp [e, idle, st]
  · simp [e, idle, st, run]
  · simp [e, idle, st, run]
  · simp [e, idle, st, run, armLoop_eq]
  · simp [e, idle, st, run]
  · simp [e, idle, st, run]
  · simp [e, idle, st, run]

theorem tick_ctrlState (c : Config) (code : BitVec 3) (ibus pot per : Word) (s : State) :
    (tick c code ibus pot per s).ctrlState = ctrlStateAfterTick s := by
  cases h : s.ident.active with
  | false =>
    rw [tick_inactive c code ibus pot per s h, ctrlStep_ctrlState c (by rw [tickFront_ident, h])]
    simp [ctrlStateAfterTick]
  | true =>
    rw [tick_active c code ibus pot per s h, idStep_ctrlState, tickFront_ctrlState, ctrlStateAfterTick, if_pos h]

/-- Every event leaves `CTRL_STATE` as the table says. -/
theorem eventEffect_ctrlState (c : Config) (i : Instr) (s : State) :
    (eventEffect c i s).ctrlState = ctrlStateAfter c i s := by
  cases i with
  | tick code ibus pot per => exact tick_ctrlState c code ibus pot per s
  | cmdIdStart => exact idStart_ctrlState c s
  | cmdCtrlReset => exact ctrlReset_ctrlState s
  | cmdInit => rw [eventEffect, initBody_eq]; rfl
  | reset => rw [eventEffect, resetOp_eq]; rfl
  | tclk n => exact tclk_ctrlState n s
  | cmdIdHandover => exact idHandover_ctrlState s
  | cmdTblLoadId => exact tblLoadId_ctrlState s
  | wrTbl8x lo data => exact writeRunTable_ctrlState (0x8#4 ++ lo) data s
  | wrTbl9x lo data => exact writeRunTable_ctrlState (0x24#6 ++ lo) data s
  | wrTbl94 data => exact writeRunTable_ctrlState 0x94 data s
  | cmdCtrlFault | nopev | cmdNop | cmdTblLoadConst | cmdRsvd | wrCtrl | wrStatus | wrRo | rd | rsvd => rfl

/-! ## The entries to FAULT (rule R190) -/

/-- The LOOP arm goes to FAULT in the reserved mode only (rule R135). -/
theorem loopTarget_eq_stFault {m : BitVec 2} : (if m = 0 then stOpenLoop else if m = 1 then stSpeedLoop
    else if m = 2 then stCurrentLoop else stFault) = stFault ↔ m = 3 := by
  revert m; decide

/-- The control machine itself enters FAULT from LOOP in the reserved mode and from an unknown state only. -/
theorem ctrlStateAfterTick_entersFault {s : State} (outside : s.ctrlState ≠ stFault)
    (fault : ctrlStateAfterTick s = stFault) :
    s.ident.active = false
    ∧ ((s.ctrlState = stLoop ∧ modeField s = 3 ∧ runBit s = true) ∨ s.ctrlState.toNat > 5) := by
  have beyond : ∀ st : BitVec 3, st ≠ stFault → st.toNat ≥ 5 → st.toNat > 5 := by decide
  unfold ctrlStateAfterTick at fault
  split at fault
  · exact absurd fault outside
  next idle =>
  refine ⟨Bool.eq_false_iff.2 idle, ?_⟩
  split at fault
  next high => exact .inr (beyond _ outside high)
  split at fault
  · contradiction
  next run =>
  split at fault
  · contradiction
  split at fault
  next loop =>
    exact .inl ⟨loop, loopTarget_eq_stFault.1 fault, Bool.eq_true_of_not_eq_false run⟩
  · exact absurd fault outside

/-- The five entries, by the table. -/
theorem ctrlStateAfter_entersFault {c : Config} {i : Instr} {s : State} (outside : s.ctrlState ≠ stFault)
    (fault : ctrlStateAfter c i s = stFault) :
    i = .cmdCtrlFault
    ∨ ((∃ code ibus pot per, i = .tick code ibus pot per) ∧ s.ident.active = false
      ∧ ((s.ctrlState = stLoop ∧ modeField s = 3 ∧ runBit s = true) ∨ s.ctrlState.toNat > 5))
    ∨ ((i = .reset ∨ i = .cmdInit) ∧ cfgCheck c = true) := by
  cases i with
  | cmdCtrlFault => exact .inl rfl
  | tick code ibus pot per => exact .inr (.inl ⟨⟨_, _, _, _, rfl⟩, ctrlStateAfterTick_entersFault outside fault⟩)
  | reset =>
    refine .inr (.inr ⟨.inl rfl, by_contra fun sound => ?_⟩)
    rw [ctrlStateAfter, if_neg sound] at fault
    contradiction
  | cmdInit =>
    refine .inr (.inr ⟨.inr rfl, by_contra fun sound => ?_⟩)
    rw [ctrlStateAfter, if_neg sound] at fault
    contradiction
  | cmdIdStart | cmdCtrlReset =>
    simp only [ctrlStateAfter] at fault
    split at fault <;> contradiction
  | _ => exact absurd fault outside

/-- The control machine never drives in FAULT. -/
theorem ctrlStep_undriven {c : Config} {s : State} (fault : (ctrlStep c s).ctrlState = stFault) :
    (ctrlStep c s).out.pwmEn = false := by
  obtain ⟨-, e⟩ | ⟨-, e⟩ | ⟨-, -, e⟩ | ⟨-, -, e⟩ | ⟨-, -, e⟩ | ⟨st, -, e⟩ | ⟨st, -, e⟩ | ⟨st, -, e⟩ := ctrlStep_cases c s
  all_goals rw [e] at fault ⊢
  · rfl
  · rfl
  · rfl
  · simp at fault
  · rw [armLoop_eq] at fault ⊢
    exact if_pos (loopTarget_eq_stFault.1 fault)
  · simp [st] at fault
  · simp [st] at fault
  · simp [st] at fault

/-- Settles O37: the table of rule R141 names the entries, and the operation of each disables the PWM. -/
theorem faultIsEnteredInFiveWays : Obligations.FaultIsEnteredInFiveWays := by
  intro i s t h outside fault
  obtain rfl := eq_eventEffect_of_exec h
  have entry := ctrlStateAfter_entersFault outside (eventEffect_ctrlState .. ▸ fault)
  refine ⟨?_, entry⟩
  obtain rfl | ⟨⟨code, ibus, pot, per, rfl⟩, idle, -⟩ | ⟨rfl | rfl, -⟩ := entry
  · rfl
  · rw [eventEffect, tick_inactive _ code ibus pot per s idle] at fault ⊢
    exact ctrlStep_undriven fault
  · rw [eventEffect, resetOp_eq]; rfl
  · rw [eventEffect, initBody_eq]; rfl

end Sys2Proof.Machine
end

section
/-! SUPPORT. One tick of an active identifier (45_hall_identifier.md): the drive, the count, and the reading on the last tick of
an interval. After it the statement on such a tick. -/

namespace Sys2Proof.Machine

/-- All a step at vector `v` does: what the vector does, and the completion test (rule R151). -/
theorem idStep_eq (c : Config) (code : BitVec 3) {s : State} {v : Fin 6} (h : s.ident.vec.toNat = v.val) :
    idStep c code s = { idVector c code v s with
      flags := { (idVector c code v s).flags with
        idDone := s.flags.idDone || decide (6 ≤ (idVector c code v s).ident.vec.toNat) }
      out := { (idVector c code v s).out with pwmEn := decide ((idVector c code v s).ident.vec.toNat < 6) } } := by
  rw [idStep_vector c code s v h, ← idVector_flags_idDone c code v s]
  split
  next finished =>
    rw [decide_eq_true finished, decide_eq_false (by omega), Bool.or_true]; rfl
  next going =>
    rw [decide_eq_false going, decide_eq_true (by omega), Bool.or_false, ← idVector_out_pwmEn c code v s]

/-- The drive of vector `v`, on every tick (rule R151, steps 1 to 3). -/
theorem idStep_drives (c : Config) (code : BitVec 3) {s : State} {v : Fin 6} (h : s.ident.vec.toNat = v.val) :
    (idStep c code s).pi2 = piUpdate { s.pi2 with ref := c.idIlimit, meas := s.cur.ibusCal }
    ∧ (idStep c code s).ident.duty.toInt = scale15 (idStep c code s).pi2.out.toInt s.latch.pwmPeriod.toNat
    ∧ ((idStep c code s).out.pwmDuty.toNat : Int)
      = clamp (idStep c code s).ident.duty.toInt c.minDuty.toNat c.maxDuty.toNat
    ∧ (idStep c code s).out.pwmOvr = c.svTable[v] := by
  obtain ⟨duty, pwmDuty⟩ := idDrive_duty c v s
  rw [idStep_eq c code h]
  dsimp only
  rw [idVector_pi2, idVector_ident_duty, idVector_out_pwmDuty, idVector_out_pwmOvr]
  exact ⟨rfl, duty, pwmDuty, rfl⟩

/-- A tick before the last of its interval only counts. -/
theorem idStep_counts {c : Config} {code : BitVec 3} {s : State} {v : Fin 6} (h : s.ident.vec.toNat = v.val)
    (counts : s.ident.icnt.toNat + 1 < c.idInterval.toNat) :
    (idStep c code s).ident = { s.ident with icnt := s.ident.icnt + 1, duty := (idStep c code s).ident.duty }
    ∧ (idStep c code s).out.pwmEn = true ∧ (idStep c code s).flags.idFail = s.flags.idFail
    ∧ (idStep c code s).flags.idDone = s.flags.idDone := by
  have going : s.ident.vec.toNat < 6 := by omega
  rw [idStep_eq c code h, idVector_counts c code v s counts]
  simp [going]

/-- The identifier after the last tick of vector `v`'s interval (rules R151 and R152). -/
theorem idVector_ident_reads (c : Config) (code : BitVec 3) (v : Fin 6) {s : State}
    (last : ¬ s.ident.icnt.toNat + 1 < c.idInterval.toNat) :
    (idVector c code v s).ident = { s.ident with
      duty := (idDrive c v s).ident.duty, icnt := 0, hallNow := code, hallLast := code
      failCnt := if readingFails code s then failCntNext s.ident.failCnt else s.ident.failCnt
      map := idRecord c code v s.ident.map
      vec := if readingFails code s && c.idAbortOnFail then 6 else s.ident.vec + 1 } := by
  rw [idVector_reads c code v s last, idReading_eq]
  rfl

theorem idVector_flags_idFail_reads (c : Config) (code : BitVec 3) (v : Fin 6) {s : State}
    (last : ¬ s.ident.icnt.toNat + 1 < c.idInterval.toNat) :
    (idVector c code v s).flags.idFail = (s.flags.idFail || readingFails code s) := by
  rw [idVector_reads c code v s last, idReading_eq]
  rfl

/-- What a reading leaves of the failure flag, the count and the vector: a failed one counts, saturating, and may end the
run; any other advances the vector. -/
theorem idVector_reads_outcome (c : Config) (code : BitVec 3) {v : Fin 6} {s : State} (h : s.ident.vec.toNat = v.val)
    (last : ¬ s.ident.icnt.toNat + 1 < c.idInterval.toNat) :
    if code = 0 ∨ code = 7 ∨ code = s.ident.hallLast then
      (idVector c code v s).flags.idFail = true
      ∧ (idVector c code v s).ident.failCnt.toNat = min (s.ident.failCnt.toNat + 1) 7
      ∧ (idVector c code v s).ident.vec.toNat = (if c.idAbortOnFail then 6 else v.val + 1)
    else
      (idVector c code v s).flags.idFail = s.flags.idFail
      ∧ (idVector c code v s).ident.failCnt = s.ident.failCnt
      ∧ (idVector c code v s).ident.vec.toNat = v.val + 1 := by
  have next : (s.ident.vec.toNat + 1) % 8 = v.val + 1 := by omega
  rw [idVector_flags_idFail_reads c code v last, idVector_ident_reads c code v last]
  simp only [← readingFails_iff]
  cases failed : readingFails code s with
  | false => simp [next]
  | true => cases c.idAbortOnFail <;> simp [next, failCntNext_toNat]

/-- A run is finished at vector 6 and never beyond it. -/
theorem idVector_vec_le (c : Config) (code : BitVec 3) {v : Fin 6} {s : State} (h : s.ident.vec.toNat = v.val) :
    (idVector c code v s).ident.vec.toNat ≤ 6 := by
  by_cases counts : s.ident.icnt.toNat + 1 < c.idInterval.toNat
  · rw [idVector_counts c code v s counts]
    dsimp only
    omega
  · have outcome := idVector_reads_outcome c code h counts
    split_ifs at outcome <;> omega

/-- The last tick of an interval reads the code (rule R151, steps (a) to (e), and the completion test). -/
theorem idStep_reads {c : Config} {code : BitVec 3} {s : State} {v : Fin 6} (h : s.ident.vec.toNat = v.val)
    (last : ¬ s.ident.icnt.toNat + 1 < c.idInterval.toNat) :
    ((idStep c code s).ident.icnt = 0 ∧ (idStep c code s).ident.hallNow = code
      ∧ (idStep c code s).ident.hallLast = code)
    ∧ (∀ (r : Fin 7) (ch : Fin 3), (idStep c code s).ident.map[r][ch]
        = if code.toNat = r.val ∧ 1 ≤ r.val then c.idBldc[v][ch] else s.ident.map[r][ch])
    ∧ (if code = 0 ∨ code = 7 ∨ code = s.ident.hallLast then
        (idStep c code s).flags.idFail = true
        ∧ (idStep c code s).ident.failCnt.toNat = min (s.ident.failCnt.toNat + 1) 7
        ∧ (idStep c code s).ident.vec.toNat = (if c.idAbortOnFail then 6 else v.val + 1)
      else
        (idStep c code s).flags.idFail = s.flags.idFail ∧ (idStep c code s).ident.failCnt = s.ident.failCnt
        ∧ (idStep c code s).ident.vec.toNat = v.val + 1)
    ∧ (idStep c code s).out.pwmEn = decide ((idStep c code s).ident.vec.toNat < 6)
    ∧ (idStep c code s).flags.idDone = (s.flags.idDone || decide ((idStep c code s).ident.vec.toNat = 6)) := by
  have vecLe := idVector_vec_le c code h
  have ident := idVector_ident_reads c code v last
  rw [idStep_eq c code h]
  dsimp only
  refine ⟨by rw [ident]; exact ⟨rfl, rfl, rfl⟩, fun r ch => ?_, idVector_reads_outcome c code h last, rfl, ?_⟩
  · rw [ident]
    dsimp only
    rw [idRecord_row]
    split <;> rfl
  · have finished : 6 ≤ (idVector c code v s).ident.vec.toNat ↔ (idVector c code v s).ident.vec.toNat = 6 := by omega
    simp only [finished]

/-- Settles O48: the front of the tick leaves the identifier and its regulator alone, and the step runs on the current it has
measured. -/
theorem identifierTickDrivesAndReads : Obligations.IdentifierTickDrivesAndReads := by
  intro code ibus pot per s v active vec
  refine ⟨_, exec_eq_next .., ?_⟩
  have hallFail := tick_flags_hallFail Config.cfg code ibus pot per s
  rw [tick_active _ code ibus pot per s active] at hallFail
  rw [eventEffect, tick_active _ code ibus pot per s active]
  have vec' : (tickFront Config.cfg code ibus pot per s).ident.vec.toNat = v.val := by rw [tickFront_ident, vec]
  obtain ⟨regulator, duty, pwmDuty, pattern⟩ := idStep_drives Config.cfg code vec'
  have counts := idStep_counts (c := Config.cfg) (code := code) vec'
  have reads := idStep_reads (c := Config.cfg) (code := code) vec'
  rw [tickFront_ident, tickFront_flags_idFail, tickFront_flags_idDone] at counts reads
  rw [tickFront_pi2, ← idStep_cur Config.cfg code] at regulator
  rw [tickFront_latch] at duty
  refine ⟨regulator, duty, pwmDuty, pattern, ?_, hallFail, ?_⟩
  · split
    next counting => exact counts counting
    next last => exact reads last
  · simp [active]

end Sys2Proof.Machine
end

section
/-! SUPPORT. A filtered sample (43_bus_current.md, rule R126) and the order of the units in a tick (rule R167). Each part ends
with the statement it settles. -/

namespace Sys2Proof.Machine

/-! ## The three lines of a filtered sample (rule R126) -/

/-- No line wraps. The filter reads the calibrated sample just written and the previous output. -/
theorem curSample_filters (c : Config) (s : State) :
    (curSample c s).cur.ibusCal.toInt = sat16 (s.latch.ibusRaw.toInt - s.cur.offset.toInt)
    ∧ (curSample c s).cur.lpfAcc.toInt
      = sat32 (s.cur.lpfAcc.toInt + ((curSample c s).cur.ibusCal.toInt - s.cur.ibusFilt.toInt) * c.lpfGain.toInt)
    ∧ (curSample c s).cur.ibusFilt.toInt = sat16 (asr (curSample c s).cur.lpfAcc.toInt 15) :=
  ⟨toInt_ofInt16 (sat16_range _).1 (sat16_range _).2, toInt_ofInt32 (sat32_range _).1 (sat32_range _).2,
    toInt_ofInt16 (sat16_range _).1 (sat16_range _).2⟩

/-- The front of a tick after `OFFS_DONE` ends with a filtered sample (rule R127). -/
theorem tickFront_calibrated (c : Config) (code : BitVec 3) (ibus pot per : Word) (s : State)
    (done : s.flags.offsDone = true) :
    tickFront c code ibus pot per s
      = curSample c (speedCalc c (hallHandler c code (latchInputs ibus pot per s))) :=
  curStep_calibrated c _ (by simp [done])

/-- Settles O35: the units before the sample only latch it, and the unit after it writes no element of the bus current. -/
theorem calibratedTickFiltersTheSample : Obligations.CalibratedTickFiltersTheSample := by
  intro code ibus pot per s done
  refine ⟨_, exec_eq_next .., ?_⟩
  rw [eventEffect, tick_cur, tick_flags_offsDone, tickFront_calibrated _ code ibus pot per s done]
  have sample := curSample_filters Config.cfg
    (speedCalc Config.cfg (hallHandler Config.cfg code (latchInputs ibus pot per s)))
  rw [speedCalc_latch, hallHandler_latch, latchInputs_latch, speedCalc_cur, hallHandler_cur, latchInputs_cur] at sample
  obtain ⟨cal, acc, filt⟩ := sample
  exact ⟨cal, acc, filt, by simp [done]⟩

/-! ## The order of the units (rule R167) -/

/-- Settles O27: the front of the tick leaves `ID_ACTIVE` alone, so its value before the tick chooses the last unit. -/
theorem tickRunsTheUnitsInOrder : Obligations.TickRunsTheUnitsInOrder := by
  intro code ibus pot per s
  constructor
  · intro active
    rw [exec_eq_next, eventEffect, tick_active _ code ibus pot per s active, tickFront]
  · intro idle
    rw [exec_eq_next, eventEffect, tick_inactive _ code ibus pot per s idle, tickFront]

end Sys2Proof.Machine
end

section
/-! SUPPORT. `PWM_EN` after each event, by the outputs column of rule R141 and rule R153, beside the table of `CTRL_STATE` above.
After it the statements on every change of the two, on the gate of the PWM (rule R142) and on FAULT (rule R191). -/

namespace Sys2Proof.Machine

/-! ## The gates of the PWM -/

/-- From `s` to `t` nothing changes that rule R142 speaks of: the PWM, the identifier, the control state. -/
structure GatesKept (s t : State) : Prop where
  pwmEn : t.out.pwmEn = s.out.pwmEn
  ident : t.ident = s.ident
  ctrlState : t.ctrlState = s.ctrlState

theorem gatesKept_refl (s : State) : GatesKept s s := ⟨rfl, rfl, rfl⟩

theorem gatesKept_badEv (s : State) : GatesKept s (raise .badEv s) := ⟨rfl, rfl, rfl⟩

theorem gatesKept_tclk (n : DWord) (s : State) : GatesKept s (tclk n s) := by
  rw [tclk_eq]; exact ⟨rfl, rfl, rfl⟩

theorem gatesKept_tblLoadId (s : State) : GatesKept s (tblLoadId s) := by
  obtain ⟨-, refused⟩ | ⟨-, loaded⟩ := tblLoadId_cases s
  · exact refused ▸ gatesKept_badEv s
  · exact loaded ▸ ⟨rfl, rfl, rfl⟩

theorem gatesKept_writeRunTable (a : BitVec 8) (v : Word) (s : State) : GatesKept s (writeRunTable a v s) := by
  unfold writeRunTable
  split
  · exact ⟨rfl, rfl, rfl⟩
  · exact gatesKept_badEv s

theorem gatesKept_tickFront (c : Config) (code : BitVec 3) (ibus pot per : Word) (s : State) :
    GatesKept s (tickFront c code ibus pot per s) :=
  ⟨by rw [tickFront_out], tickFront_ident .., tickFront_ctrlState ..⟩

/-- An event is a tick, an initialisation or one of four commands, or it leaves the gates alone. -/
theorem eventEffect_gates (c : Config) (i : Instr) (s : State) :
    (∃ code ibus pot per, i = .tick code ibus pot per)
    ∨ (pwmEnAfter i s = false ∧ ∃ s', eventEffect c i s = initBody c s')
    ∨ i = .cmdIdStart ∨ i = .cmdIdHandover ∨ i = .cmdCtrlReset ∨ i = .cmdCtrlFault
    ∨ (pwmEnAfter i s = s.out.pwmEn ∧ GatesKept s (eventEffect c i s)) := by
  cases i with
  | tick code ibus pot per => exact .inl ⟨_, _, _, _, rfl⟩
  | cmdInit => exact .inr (.inl ⟨rfl, s, rfl⟩)
  | reset => exact .inr (.inl ⟨rfl, _, rfl⟩)
  | cmdIdStart | cmdIdHandover | cmdCtrlReset | cmdCtrlFault => simp
  | tclk => simp [pwmEnAfter, eventEffect, gatesKept_tclk]
  | cmdTblLoadId => simp [pwmEnAfter, eventEffect, gatesKept_tblLoadId]
  | wrTbl8x | wrTbl9x | wrTbl94 => simp [pwmEnAfter, eventEffect, gatesKept_writeRunTable]
  | nopev | cmdNop => simp [pwmEnAfter, eventEffect, gatesKept_refl]
  | cmdRsvd | wrRo | rsvd => simp [pwmEnAfter, eventEffect, gatesKept_badEv]
  | cmdTblLoadConst | wrCtrl | wrStatus | rd =>
    exact .inr (.inr (.inr (.inr (.inr (.inr ⟨rfl, rfl, rfl, rfl⟩)))))

/-! ## The outputs column of rule R141 -/

theorem initBody_undriven (c : Config) (s : State) : (initBody c s).out.pwmEn = false := by
  rw [initBody_eq]; rfl

theorem idStart_pwmEn (c : Config) (s : State) :
    (idStart c s).out.pwmEn = if s.ctrlState.toNat < 5 then false else s.out.pwmEn := by
  obtain ⟨faulted, refused⟩ | ⟨sound, started⟩ := idStart_cases c s
  · rw [refused, raise_out, if_neg (by omega)]
  · rw [started, parkInInit_out_pwmEn, if_pos sound]

theorem idHandover_pwmEn (s : State) :
    (idHandover s).out.pwmEn = if s.ident.active then false else s.out.pwmEn := by
  obtain ⟨idle, refused⟩ | ⟨active, ended⟩ := idHandover_cases s
  · simp [refused, idle]
  · simp [ended, active]

theorem ctrlReset_pwmEn (s : State) : (ctrlReset s).out.pwmEn
    = if s.flags.cfgErr = false ∧ s.ident.active = false then false else s.out.pwmEn := by
  obtain ⟨barred, refused⟩ | ⟨sound, idle, parked⟩ := ctrlReset_cases s
  · rw [refused, raise_out, if_neg (by simpa [Decidable.imp_iff_not_or] using barred)]
  · rw [parked, parkInInit_out_pwmEn, if_pos ⟨sound, idle⟩]

/-- The rows of a step of the control machine. -/
theorem ctrlStep_pwmEn (c : Config) (code : BitVec 3) (ibus pot per : Word) (s : State) :
    (ctrlStep c s).out.pwmEn = pwmEnAfter (.tick code ibus pot per) s := by
  unfold pwmEnAfter
  obtain ⟨st, e⟩ | ⟨st, e⟩ | ⟨st, run, e⟩ | ⟨st, run, e⟩ | ⟨st, run, e⟩ | ⟨st, run, e⟩ | ⟨st, run, e⟩ | ⟨st, run, e⟩ :=
    ctrlStep_cases c s
  · simp [e, st.le]
  · simp [e, st]
  · simp [e, run]
  · simp [e, st, run]
  · simp [e, st, run, armLoop_eq]
  · simp [e, st, run]
  · simp [e, st, run]
  · simp [e, st, run]

theorem tick_pwmEn (c : Config) (code : BitVec 3) (ibus pot per : Word) {s : State} (idle : s.ident.active = false) :
    (tick c code ibus pot per s).out.pwmEn = pwmEnAfter (.tick code ibus pot per) s := by
  rw [tick_inactive c code ibus pot per s idle, ctrlStep_pwmEn c code ibus pot per]
  simp [pwmEnAfter]

/-- Every event but a tick of the identifier leaves `PWM_EN` as the column says. -/
theorem eventEffect_pwmEn (c : Config) (i : Instr) (s : State)
    (h : s.ident.active = false ∨ ∀ code ibus pot per, i ≠ .tick code ibus pot per) :
    (eventEffect c i s).out.pwmEn = pwmEnAfter i s := by
  obtain ⟨code, ibus, pot, per, rfl⟩ | ⟨column, s', e⟩ | rfl | rfl | rfl | rfl | ⟨column, kept⟩ :=
    eventEffect_gates c i s
  · exact tick_pwmEn c code ibus pot per (h.resolve_right fun notTick => notTick _ _ _ _ rfl)
  · rw [e, initBody_undriven, column]
  · exact idStart_pwmEn c s
  · exact idHandover_pwmEn s
  · exact ctrlReset_pwmEn s
  · rfl
  · rw [kept.pwmEn, column]

/-- Settles O36. -/
theorem everyControlStateChange : Obligations.EveryControlStateChange := by
  intro i s t h
  obtain rfl := eq_eventEffect_of_exec h
  exact ⟨eventEffect_ctrlState .., eventEffect_pwmEn _ i s⟩

/-! ## The gate (rule R142) -/

namespace PwmGated

variable {s t : State}

theorem of_gatesKept (h : PwmGated s) (kept : GatesKept s t) : PwmGated t := by
  obtain ⟨pwmEn, ident, ctrlState⟩ := kept
  exact ⟨by rw [pwmEn, ident, ctrlState]; exact h.enabled, by rw [ident, ctrlState]; exact h.parked⟩

/-- With the PWM off there is only the parking to keep. -/
theorem of_undriven (undriven : s.out.pwmEn = false) (parked : s.ident.active = true → s.ctrlState = stInit) :
    PwmGated s := ⟨fun driven => absurd (undriven.symm.trans driven) Bool.false_ne_true, parked⟩

/-- With the identifier inactive there is only the loop state to keep. -/
theorem of_idle (idle : s.ident.active = false) (loop : s.out.pwmEn = true →
    s.ctrlState = stOpenLoop ∨ s.ctrlState = stSpeedLoop ∨ s.ctrlState = stCurrentLoop) : PwmGated s :=
  ⟨fun driven => .inl ⟨idle, loop driven⟩, fun active => absurd (idle.symm.trans active) Bool.false_ne_true⟩

theorem undriven_of_idle (h : PwmGated s) (idle : s.ident.active = false)
    (notLoop : s.ctrlState = stInit ∨ s.ctrlState = stLoop) : s.out.pwmEn = false := by
  refine Bool.eq_false_iff.2 fun driven => ?_
  obtain ⟨-, loop⟩ | ⟨active, -⟩ := h.enabled driven
  · obtain st | st := notLoop <;> simp [st] at loop
  · exact absurd (idle.symm.trans active) Bool.false_ne_true

/-- A step of the control machine enables the PWM in the three loop arms, which stay in their state; the INIT and LOOP
arms find it disabled. -/
theorem ctrlStep (h : PwmGated s) (idle : s.ident.active = false) (c : Config) : PwmGated (ctrlStep c s) := by
  refine of_idle (by rw [ctrlStep_ident, idle]) ?_
  obtain ⟨-, e⟩ | ⟨-, e⟩ | ⟨-, -, e⟩ | ⟨st, -, e⟩ | ⟨st, -, e⟩ | ⟨st, -, e⟩ | ⟨st, -, e⟩ | ⟨st, -, e⟩ :=
    ctrlStep_cases c s
  · simp [e]
  · simp [e]
  · simp [e]
  · simp [e, h.undriven_of_idle idle (.inl st)]
  · simp [e, armLoop_eq, h.undriven_of_idle idle (.inr st)]
  · simp [e, st]
  · simp [e, st]
  · simp [e, st]

/-- A step of the identifier enables the PWM below vector 6 only. -/
theorem idStep (h : PwmGated s) (active : s.ident.active = true) (c : Config) (code : BitVec 3) :
    PwmGated (idStep c code s) where
  enabled := by
    obtain ⟨-, e⟩ | ⟨v, -, ⟨-, e⟩ | ⟨going, e⟩⟩ := idStep_cases c code s
    · simp [e]
    · simp [e]
    · rw [e]; exact fun _ => .inr ⟨by rw [idVector_ident_active, active], going⟩
  parked := by rw [idStep_ident_active, idStep_ctrlState]; exact h.parked

theorem tick (h : PwmGated s) (c : Config) (code : BitVec 3) (ibus pot per : Word) :
    PwmGated (tick c code ibus pot per s) := by
  have front := h.of_gatesKept (gatesKept_tickFront c code ibus pot per s)
  cases k : s.ident.active with
  | false => rw [tick_inactive c code ibus pot per s k]; exact front.ctrlStep (by rw [tickFront_ident, k]) c
  | true => rw [tick_active c code ibus pot per s k]; exact front.idStep (by rw [tickFront_ident, k]) c code

theorem initBody (c : Config) (s : State) : PwmGated (initBody c s) := by
  rw [initBody_eq]
  exact { resetWith c with }

theorem idStart (h : PwmGated s) (c : Config) : PwmGated (idStart c s) := by
  obtain ⟨-, refused⟩ | ⟨-, started⟩ := idStart_cases c s
  · exact refused ▸ h.of_gatesKept (gatesKept_badEv s)
  · exact started ▸ of_undriven rfl fun _ => rfl

theorem idHandover (h : PwmGated s) : PwmGated (idHandover s) := by
  obtain ⟨-, refused⟩ | ⟨-, ended⟩ := idHandover_cases s
  · exact refused ▸ h.of_gatesKept (gatesKept_badEv s)
  · exact ended ▸ of_undriven rfl nofun

theorem ctrlReset (h : PwmGated s) : PwmGated (ctrlReset s) := by
  obtain ⟨-, refused⟩ | ⟨-, -, parked⟩ := ctrlReset_cases s
  · exact refused ▸ h.of_gatesKept (gatesKept_badEv s)
  · exact parked ▸ of_undriven rfl fun _ => rfl

theorem ctrlFault (s : State) : PwmGated (ctrlFault s) := of_undriven rfl nofun

theorem eventEffect (h : PwmGated s) (c : Config) (i : Instr) : PwmGated (eventEffect c i s) := by
  obtain ⟨code, ibus, pot, per, rfl⟩ | ⟨-, s', e⟩ | rfl | rfl | rfl | rfl | ⟨-, kept⟩ := eventEffect_gates c i s
  · exact h.tick c code ibus pot per
  · exact e ▸ initBody c s'
  · exact h.idStart c
  · exact h.idHandover
  · exact h.ctrlReset
  · exact ctrlFault s
  · exact h.of_gatesKept kept

end PwmGated

/-- Settles O56. -/
theorem everyStepKeepsThePwmGated : Obligations.EveryStepKeepsThePwmGated :=
  step_keeps (fun _ _ h => { h with }) (fun i _ h => h.eventEffect _ i)

/-! ## FAULT (rules R139 and R191) -/

/-- A tick in FAULT runs the FAULT arm, whatever `RUN` is. -/
theorem tick_of_fault (c : Config) (code : BitVec 3) (ibus pot per : Word) {s : State} (idle : s.ident.active = false)
    (fault : s.ctrlState = stFault) : tick c code ibus pot per s = armFault (tickFront c code ibus pot per s) := by
  rw [tick_inactive c code ibus pot per s idle]
  simp [ctrlStep, fault]

/-- The exits, by the table of rule R141. -/
theorem ctrlStateAfter_leavesFault {c : Config} {i : Instr} {s : State} (fault : s.ctrlState = stFault)
    (outside : ctrlStateAfter c i s ≠ stFault) :
    (i = .cmdCtrlReset ∧ s.flags.cfgErr = false ∧ s.ident.active = false)
    ∨ ((i = .cmdInit ∨ i = .reset) ∧ cfgCheck c = false) := by
  cases i with
  | cmdCtrlReset => exact .inl ⟨rfl, by_contra fun barred => outside (by rw [ctrlStateAfter, if_neg barred, fault])⟩
  | cmdInit =>
    exact .inr ⟨.inl rfl, Bool.eq_false_iff.2 fun defective => outside (by rw [ctrlStateAfter, if_pos defective])⟩
  | reset =>
    exact .inr ⟨.inr rfl, Bool.eq_false_iff.2 fun defective => outside (by rw [ctrlStateAfter, if_pos defective])⟩
  | tick => exact absurd (by simp [ctrlStateAfter, ctrlStateAfterTick, fault]) outside
  | cmdIdStart => exact absurd (by simp [ctrlStateAfter, fault]) outside
  | cmdCtrlFault => exact absurd rfl outside
  | _ => exact absurd fault outside

/-- Settles O38: the FAULT arm writes `PWM_EN` alone, and the table of rule R141 names the exits. -/
theorem faultIsTerminal : Obligations.FaultIsTerminal := by
  refine ⟨fun code ibus pot per s fault idle => ⟨_, exec_eq_next .., ?_⟩, fun i s t h fault outside => ?_⟩
  · rw [eventEffect, tick_of_fault _ code ibus pot per idle fault]
    simp [fault, armFault]
  · obtain rfl := eq_eventEffect_of_exec h
    exact ctrlStateAfter_leavesFault fault (eventEffect_ctrlState .. ▸ outside)

end Sys2Proof.Machine
end

section
/-! SUPPORT. The arm a tick of the control machine runs (44_sixstep_control.md), and what each arm leaves. Each part ends with
the statements it settles. -/

namespace Sys2Proof.Machine

/-! ## The arm a tick runs (rule R133) -/

section Arms

variable (c : Config) (code : BitVec 3) (ibus pot per : Word) {s : State}

theorem tick_of_stopped (idle : s.ident.active = false) (below : s.ctrlState.toNat < 5) (stop : runBit s = false) :
    tick c code ibus pot per s = parkInInit (tickFront c code ibus pot per s) := by
  have notUnknown : ¬ s.ctrlState.toNat > 5 := by omega
  have notFault : s.ctrlState ≠ stFault := by rintro st; simp [st] at below
  rw [tick_inactive c code ibus pot per s idle, ctrlStep, tickFront_ctrlState, runBit_tickFront, if_neg notUnknown,
    if_neg notFault, if_pos stop]

theorem tick_of_init (idle : s.ident.active = false) (st : s.ctrlState = stInit) (run : runBit s = true) :
    tick c code ibus pot per s = armInit (tickFront c code ibus pot per s) := by
  rw [tick_inactive c code ibus pot per s idle]
  simp [ctrlStep, st, run]

theorem tick_of_loop (idle : s.ident.active = false) (st : s.ctrlState = stLoop) (run : runBit s = true) :
    tick c code ibus pot per s = armLoop (tickFront c code ibus pot per s) := by
  rw [tick_inactive c code ibus pot per s idle]
  simp [ctrlStep, st, run]

theorem tick_of_openLoop (idle : s.ident.active = false) (st : s.ctrlState = stOpenLoop) (run : runBit s = true) :
    tick c code ibus pot per s = armOpenLoop c (tickFront c code ibus pot per s) := by
  rw [tick_inactive c code ibus pot per s idle]
  simp [ctrlStep, st, run]

theorem tick_of_speedLoop (idle : s.ident.active = false) (st : s.ctrlState = stSpeedLoop) (run : runBit s = true) :
    tick c code ibus pot per s = armSpeedLoop c (tickFront c code ibus pot per s) := by
  rw [tick_inactive c code ibus pot per s idle]
  simp [ctrlStep, st, run]

theorem tick_of_currentLoop (idle : s.ident.active = false) (st : s.ctrlState = stCurrentLoop) (run : runBit s = true) :
    tick c code ibus pot per s = armCurrentLoop c (tickFront c code ibus pot per s) := by
  rw [tick_inactive c code ibus pot per s idle]
  simp [ctrlStep, st, run]

end Arms

/-! ## The stop and the arms that do not drive (rules R133 to R135) -/

/-- Settles O39: one arm for each of the three clauses. -/
theorem stopInitAndLoopTicks : Obligations.StopInitAndLoopTicks := by
  intro code ibus pot per s idle below
  refine ⟨_, exec_eq_next .., ?_⟩
  rw [eventEffect]
  refine ⟨fun stop => ?_, fun run st => ?_, fun run st => ?_⟩
  · rw [tick_of_stopped _ code ibus pot per idle below stop]
    simp [parkInInit]
  · rw [tick_of_init _ code ibus pot per idle st run]
    simp [piClear]
  · rw [tick_of_loop _ code ibus pot per idle st run, armLoop_eq]
    simp only [modeField_tickFront, tickFront_out, tickFront_ctx, tickFront_pi0, tickFront_pi1, tickFront_pi2,
      tickFront_ident, true_and, and_true]
    split <;> rfl

/-! ## The override row (rule R131) -/

/-- Settles O43. -/
theorem overrideDispatchMapsTheSector : Obligations.OverrideDispatchMapsTheSector := by
  intro c cs s ch
  rw [ovrDispatch_out_pwmOvr]
  refine ⟨fun r sector positive => ?_, fun off => ?_, rfl⟩
  · have valid : ValidCode cs := ⟨by omega, by omega⟩
    rw [overrideRow_valid c s.runTable cs valid]
    simp [sector]
  · have illegal : ¬ ValidCode cs := by obtain rfl | rfl := off <;> decide
    rw [overrideRow_illegal c s.runTable cs illegal]
    simp [offRow]

/-! ## The loop arms (rules R130, R132 and R136 to R138) -/

/-- `7 − sector` does not wrap. -/
theorem commSectorOf_toNat (dir : Bool) (sector : BitVec 3) :
    (commSectorOf dir sector).toNat = if dir then 7 - sector.toNat else sector.toNat := by
  revert dir sector; decide

/-- The latched control input is the sample, a negative one as 0. -/
theorem tickFront_ctrlIn_toInt (c : Config) (code : BitVec 3) (ibus pot per : Word) (s : State) :
    (tickFront c code ibus pot per s).latch.ctrlIn.toInt = max pot.toInt 0 := by
  rw [tickFront_latch]; exact ctrlInOf_toInt pot

/-- Settles O40: the arm reads what the front of the same tick has left. -/
theorem openLoopTickDrivesTheDuty : Obligations.OpenLoopTickDrivesTheDuty := by
  intro code ibus pot per s idle st run
  refine ⟨_, exec_eq_next .., ?_⟩
  rw [eventEffect, tick_of_openLoop _ code ibus pot per idle st run]
  obtain ⟨tgtDuty, pwmDuty⟩ := armOpenLoop_duty Config.cfg (tickFront Config.cfg code ibus pot per s)
  rw [tickFront_ctrlIn_toInt, tickFront_latch] at tgtDuty
  refine ⟨?inputs, tgtDuty, pwmDuty, ?pattern, ?driven, ?state, ?context, ?frame⟩
  case inputs => simp [commSectorOf_toNat]
  case pattern => simp
  case driven => exact armOpenLoop_out_pwmEn ..
  case state => simp [st]
  case context => simp
  case frame => simp

/-- Settles O41: the regulator runs on the target and the speed of the same tick. -/
theorem speedLoopTickRunsTheSpeedRegulator : Obligations.SpeedLoopTickRunsTheSpeedRegulator := by
  intro code ibus pot per s idle st run
  refine ⟨_, exec_eq_next .., ?_⟩
  rw [eventEffect, tick_of_speedLoop _ code ibus pot per idle st run]
  obtain ⟨tgtDuty, pwmDuty⟩ := armSpeedLoop_duty Config.cfg (tickFront Config.cfg code ibus pot per s)
  rw [tickFront_latch] at tgtDuty
  refine ⟨?inputs, ?target, ?regulator, tgtDuty, pwmDuty, ?pattern, ?driven, ?state, ?context, ?frame⟩
  case inputs => simp [commSectorOf_toNat]
  case target =>
    rw [armSpeedLoop_ctx_tgtSpeed, getInputs_speedLoop_ctx_tgtSpeed, targetSpeed, tickFront_ctrlIn_toInt]
  case regulator => simp
  case pattern => simp
  case driven => exact armSpeedLoop_out_pwmEn ..
  case state => simp [st]
  case context => simp
  case frame => simp

/-- Settles O42: the regulator runs on the target and the filtered current of the same tick. -/
theorem currentLoopTickRunsTheCurrentRegulator : Obligations.CurrentLoopTickRunsTheCurrentRegulator := by
  intro code ibus pot per s idle st run
  refine ⟨_, exec_eq_next .., ?_⟩
  rw [eventEffect, tick_of_currentLoop _ code ibus pot per idle st run]
  obtain ⟨tgtDuty, pwmDuty⟩ := armCurrentLoop_duty Config.cfg (tickFront Config.cfg code ibus pot per s)
  rw [tickFront_latch] at tgtDuty
  refine ⟨?inputs, ?target, ?measured, ?regulator, tgtDuty, pwmDuty, ?pattern, ?driven, ?state, ?context, ?frame⟩
  case inputs => simp [commSectorOf_toNat]
  case target =>
    rw [armCurrentLoop_ctx_tgtCurrent, getInputs_currentLoop_ctx_tgtCurrent, targetCurrent, tickFront_ctrlIn_toInt]
  case measured => simp
  case regulator => simp
  case pattern => simp
  case driven => exact armCurrentLoop_out_pwmEn ..
  case state => simp [st]
  case context => simp
  case frame => simp

end Sys2Proof.Machine
end

section
/-! SUPPORT. The commands of the identifier (45_hall_identifier.md), and a run of it over consecutive ticks: the count of its
ticks, held by the vector and the interval counter together. Each part ends with the statements it settles. -/

namespace Sys2Proof.Machine

/-! ## The commands (rules R150 and R153 to R155) -/

/-- Settles O21: the two cases of `ID_START`. -/
theorem idStartBeginsAnEmptyRun : Obligations.IdStartBeginsAnEmptyRun := by
  intro s
  rw [exec_eq_next, eventEffect]
  obtain ⟨faulted, refused⟩ | ⟨below, started⟩ := idStart_cases Config.cfg s
  · exact ⟨fun _ => by rw [refused]; rfl, fun sound => by omega⟩
  · refine ⟨fun above => by omega, fun _ => ⟨_, rfl, ?_⟩⟩
    rw [started]
    exact ⟨⟨rfl, rfl, rfl, rfl, rfl, rfl, rfl⟩, rfl, offTable_word _, rfl, rfl, rfl, rfl⟩

/-- Settles O22: the two cases of `ID_HANDOVER`. -/
theorem idHandoverEndsTheRun : Obligations.IdHandoverEndsTheRun := by
  intro s
  rw [exec_eq_next, eventEffect]
  obtain ⟨idle, refused⟩ | ⟨active, ended⟩ := idHandover_cases s
  · exact ⟨fun _ => by rw [refused]; rfl, fun active => by simp [idle] at active⟩
  · exact ⟨fun idle => by simp [active] at idle, fun _ => by rw [ended]⟩

theorem constTable_rowZero (c : Config) (ch : Fin 3) : (constTable c)[0][ch] = c.ovrOff := by
  simp [constTable, offRow]

theorem constTable_row (c : Config) (r : Fin 6) (ch : Fin 3) : (constTable c)[r.val + 1][ch] = c.bldcConst[r][ch] := by
  fin_cases r <;> rfl

/-- Settles O23: the constant set is loaded in every state, the identified one in the two cases of `TBL_LOAD_ID`. -/
theorem tableLoadsReplaceTheRunTable : Obligations.TableLoadsReplaceTheRunTable := by
  intro s
  refine ⟨⟨_, exec_eq_next .., constTable_rowZero _, constTable_row _, rfl⟩, ?_⟩
  rw [exec_eq_next, eventEffect]
  obtain ⟨unfinished, refused⟩ | ⟨finished, loaded⟩ := tblLoadId_cases s
  · exact ⟨fun _ => by rw [refused]; rfl, fun finished => by simp [unfinished] at finished⟩
  · exact ⟨fun unfinished => by simp [finished] at unfinished, fun _ => by rw [loaded]⟩

/-! ## A finished run (rule R157) -/

theorem idComplete_out (s : State) : (idComplete s).out = { s.out with pwmEn := false } := rfl

theorem tick_of_finished (c : Config) (code : BitVec 3) (ibus pot per : Word) {s : State}
    (active : s.ident.active = true) (finished : 6 ≤ s.ident.vec.toNat) :
    tick c code ibus pot per s = idComplete (tickFront c code ibus pot per s) := by
  rw [tick_active c code ibus pot per s active, idStep_finished]
  rw [tickFront_ident]
  omega

/-- Settles O49: a finished tick completes again, after a front that writes none of these elements. -/
theorem finishedIdentifierIsFrozen : Obligations.FinishedIdentifierIsFrozen := by
  intro code ibus pot per s active finished
  refine ⟨_, exec_eq_next .., ?_⟩
  rw [eventEffect, tick_of_finished _ code ibus pot per active finished]
  refine ⟨rfl, ?output, ?frame⟩
  case output => rw [idComplete_out, tickFront_out]
  case frame => simp

/-! ## The ticks of a run (rules R151 and R158) -/

/-- The completion test ends every step: it decides the PWM, and raises `ID_DONE` when the vector it sees is the last. -/
theorem idStep_completion (c : Config) (code : BitVec 3) (s : State) :
    (idStep c code s).flags.idDone = (s.flags.idDone || decide (6 ≤ (idStep c code s).ident.vec.toNat))
    ∧ (idStep c code s).out.pwmEn = decide ((idStep c code s).ident.vec.toNat < 6) := by
  by_cases running : s.ident.vec.toNat < 6
  · rw [idStep_eq c code (v := ⟨_, running⟩) rfl]
    exact ⟨rfl, rfl⟩
  · have finished : 6 ≤ s.ident.vec.toNat := by omega
    simp [idStep_finished c code s running, finished]

/-- Without abort the reading advances the vector, whether it fails or not. -/
theorem idStep_vec_of_noAbort {c : Config} {code : BitVec 3} {s : State} (noAbort : c.idAbortOnFail = false)
    (running : s.ident.vec.toNat < 6) (last : ¬ s.ident.icnt.toNat + 1 < c.idInterval.toNat) :
    (idStep c code s).ident.vec.toNat = s.ident.vec.toNat + 1 := by
  obtain ⟨-, -, outcome, -⟩ := idStep_reads (code := code) (v := ⟨_, running⟩) rfl last
  rw [noAbort, if_neg Bool.false_ne_true] at outcome
  split at outcome
  all_goals
    obtain ⟨-, -, advanced⟩ := outcome
    exact advanced

/-- The identifier after `n` ticks of a run without abort: the vector is the number of whole intervals and the counter the
ticks of the current one, so the two hold `n` until the run is complete. `ID_DONE` and, once a tick has run, `PWM_EN`
follow the vector. -/
structure Identifying (c : Config) (n : Nat) (s : State) : Prop where
  active : s.ident.active = true
  icnt : s.ident.icnt.toNat < c.idInterval.toNat
  elapsed : s.ident.vec.toNat * c.idInterval.toNat + s.ident.icnt.toNat = min n (6 * c.idInterval.toNat)
  done : s.flags.idDone = decide (6 ≤ s.ident.vec.toNat)
  driven : n ≠ 0 → s.out.pwmEn = decide (s.ident.vec.toNat < 6)

namespace Identifying

variable {c : Config} {n : Nat} {s : State}

/-- The start of a run. -/
theorem start (interval : 1 ≤ c.idInterval.toNat) (active : s.ident.active = true) (vec : s.ident.vec = 0)
    (icnt : s.ident.icnt = 0) (notDone : s.flags.idDone = false) : Identifying c 0 s where
  active := active
  icnt := by simp [icnt]; omega
  elapsed := by simp [vec, icnt]
  done := by simp [vec, notDone]
  driven := fun positive => absurd rfl positive

theorem vec_eq (h : Identifying c n s) : s.ident.vec.toNat = min 6 (n / c.idInterval.toNat) := by
  have monotone : Monotone (· / c.idInterval.toNat) := fun _ _ le => Nat.div_le_div_right le
  have interval : 0 < c.idInterval.toNat := Nat.zero_lt_of_lt h.icnt
  calc s.ident.vec.toNat
      = (s.ident.vec.toNat * c.idInterval.toNat + s.ident.icnt.toNat) / c.idInterval.toNat := by
        rw [Nat.mul_comm, Nat.mul_add_div interval, Nat.div_eq_of_lt h.icnt, Nat.add_zero]
    _ = min (n / c.idInterval.toNat) (6 * c.idInterval.toNat / c.idInterval.toNat) := by
        rw [h.elapsed]; exact monotone.map_min
    _ = min 6 (n / c.idInterval.toNat) := by rw [Nat.mul_div_cancel _ interval, Nat.min_comm]

/-- The run has not reached vector 6 just while there are ticks of the six intervals to come. -/
theorem vec_lt_iff (h : Identifying c n s) : s.ident.vec.toNat < 6 ↔ n < 6 * c.idInterval.toNat := by
  rw [h.vec_eq, ← Nat.div_lt_iff_lt_mul (Nat.zero_lt_of_lt h.icnt)]
  omega

theorem tickFront (h : Identifying c n s) (code : BitVec 3) (ibus pot per : Word) :
    Identifying c n (tickFront c code ibus pot per s) where
  active := by rw [tickFront_ident]; exact h.active
  icnt := by rw [tickFront_ident]; exact h.icnt
  elapsed := by rw [tickFront_ident]; exact h.elapsed
  done := by rw [tickFront_ident, tickFront_flags_idDone]; exact h.done
  driven := by rw [tickFront_ident, tickFront_out]; exact h.driven

/-- One more step counts one more tick: within an interval, at the end of one, or after the last. -/
theorem idStep_elapsed (h : Identifying c n s) (noAbort : c.idAbortOnFail = false) (code : BitVec 3) :
    s.ident.vec.toNat ≤ (idStep c code s).ident.vec.toNat
    ∧ (idStep c code s).ident.icnt.toNat < c.idInterval.toNat
    ∧ (idStep c code s).ident.vec.toNat * c.idInterval.toNat + (idStep c code s).ident.icnt.toNat
      = min (n + 1) (6 * c.idInterval.toNat) := by
  have elapsed := h.elapsed
  by_cases running : s.ident.vec.toNat < 6
  · have short := h.vec_lt_iff.mp running
    by_cases counts : s.ident.icnt.toNat + 1 < c.idInterval.toNat
    · have next : (s.ident.icnt + 1).toNat = s.ident.icnt.toNat + 1 := by bv_omega
      obtain ⟨ident, -⟩ := idStep_counts (code := code) (v := ⟨_, running⟩) rfl counts
      rw [ident]
      dsimp only
      omega
    · obtain ⟨⟨restarted, -⟩, -⟩ := idStep_reads (code := code) (v := ⟨_, running⟩) rfl counts
      have zero : (idStep c code s).ident.icnt.toNat = 0 := congrArg BitVec.toNat restarted
      have icnt := h.icnt
      rw [idStep_vec_of_noAbort noAbort running counts, zero, Nat.add_mul]
      omega
  · have complete : ¬ n < 6 * c.idInterval.toNat := fun short => running (h.vec_lt_iff.mpr short)
    rw [idStep_finished c code s running, idComplete_ident]
    exact ⟨le_rfl, h.icnt, by omega⟩

theorem idStep (h : Identifying c n s) (noAbort : c.idAbortOnFail = false) (code : BitVec 3) :
    Identifying c (n + 1) (idStep c code s) := by
  obtain ⟨advances, icnt, elapsed⟩ := h.idStep_elapsed noAbort code
  obtain ⟨done, driven⟩ := idStep_completion c code s
  refine ⟨by rw [idStep_ident_active]; exact h.active, icnt, elapsed, ?_, fun _ => driven⟩
  rw [done, h.done, ← Bool.decide_or, decide_eq_decide]
  omega

theorem tick (h : Identifying c n s) (noAbort : c.idAbortOnFail = false) (x : TickInput) :
    Identifying c (n + 1) (tick c x.code x.ibus x.pot x.per s) := by
  rw [tick_active c x.code x.ibus x.pot x.per s h.active]
  exact (h.tickFront x.code x.ibus x.pot x.per).idStep noAbort x.code

/-- By induction on the ticks, the first one first. -/
theorem runTicks (h : Identifying c n s) (noAbort : c.idAbortOnFail = false) (xs : List TickInput) :
    Identifying c (n + xs.length) (runTicks c xs s) := by
  induction xs generalizing n s with
  | nil => exact h
  | cons x xs ih =>
    rw [List.length_cons, Nat.add_comm xs.length 1, ← Nat.add_assoc]
    exact ih (h.tick noAbort x)

end Identifying

/-- Settles O50: the run has counted every tick of the list, and the vector that count gives decides `ID_DONE` and `PWM_EN`. -/
theorem identificationTakesSixIntervals : Obligations.IdentificationTakesSixIntervals := by
  intro c xs s noAbort interval active vec icnt notDone
  have after := (Identifying.start interval active vec icnt notDone).runTicks noAbort xs
  rw [Nat.zero_add] at after
  refine ⟨?done, after.vec_eq, fun nonempty => ?driven⟩
  case done => rw [after.done, decide_eq_true_iff, ← Nat.not_lt, after.vec_lt_iff, Nat.not_lt]
  case driven =>
    rw [after.driven (List.length_eq_zero_iff.not.mpr nonempty), decide_eq_true_iff, after.vec_lt_iff]

end Sys2Proof.Machine
end

section
/-! SUPPORT. The system operations (46_system_ops.md): `CFGERR` after every event, the hold of a defective configuration in FAULT
(rules R174 and R177), and the nine defects (rule R176). Each part ends with the statement it settles; after them those on the
events and commands whose effect is one equation. -/

namespace Sys2Proof.Machine

/-! ## `CFGERR` (rules R15 and R174) -/

theorem UnitsKept.cfgErr {s t : State} (h : UnitsKept s t) : t.flags.cfgErr = s.flags.cfgErr := by
  have flag : (withoutSwitches t).flags.cfgErr = (withoutSwitches s).flags.cfgErr := by rw [h.eq]
  exact flag

theorem tick_flags_cfgErr (c : Config) (code : BitVec 3) (ibus pot per : Word) (s : State) :
    (tick c code ibus pot per s).flags.cfgErr = s.flags.cfgErr := by
  cases h : s.ident.active with
  | false => rw [tick_inactive c code ibus pot per s h, ctrlStep_flags, tickFront_flags_cfgErr]
  | true => rw [tick_active c code ibus pot per s h, idStep_flags_cfgErr, tickFront_flags_cfgErr]

theorem idStart_flags_cfgErr (c : Config) (s : State) : (idStart c s).flags.cfgErr = s.flags.cfgErr := by
  obtain ⟨-, refused⟩ | ⟨-, started⟩ := idStart_cases c s
  · rw [refused]; rfl
  · rw [started]; rfl

/-- Only an initialisation writes `CFGERR`, and it writes the answer of `CFG_CHECK`. -/
theorem eventEffect_flags_cfgErr (c : Config) (i : Instr) (s : State) :
    (eventEffect c i s).flags.cfgErr = if i = .cmdInit ∨ i = .reset then cfgCheck c else s.flags.cfgErr := by
  obtain ⟨code, ibus, pot, per, rfl⟩ | ⟨init, s', e⟩ | rfl | ⟨notInit, kept⟩ := eventEffect_cases c i s
  · exact tick_flags_cfgErr c code ibus pot per s
  · rw [if_pos init, e, initBody_eq]; rfl
  · exact idStart_flags_cfgErr c s
  · rw [if_neg notInit, kept.cfgErr]

/-! ## The hold of a defective configuration (rules R174 and R177) -/

namespace DefectHeld

variable {c : Config} {s : State}

/-- In FAULT with `CFGERR` set and no run active, `ID_START`, `ID_HANDOVER` and `CTRL_RESET` are all refused (rules R150, R153
and R177). -/
theorem command_refused (h : DefectHeld c s) (defective : cfgCheck c = true) {i : Instr}
    (command : i = .cmdIdStart ∨ i = .cmdIdHandover ∨ i = .cmdCtrlReset) : eventEffect c i s = raise .badEv s := by
  obtain ⟨fault, idle, -⟩ := h.held defective
  obtain rfl | rfl | rfl := command
  · obtain ⟨-, refused⟩ | ⟨below, -⟩ := idStart_cases c s
    · exact refused
    · rw [fault] at below; contradiction
  · obtain ⟨-, refused⟩ | ⟨active, -⟩ := idHandover_cases s
    · exact refused
    · rw [idle] at active; contradiction
  · obtain ⟨-, refused⟩ | ⟨sound, -, -⟩ := ctrlReset_cases s
    · exact refused
    · rw [h.flag, defective] at sound; contradiction

/-- With a defect no event leaves FAULT: a tick runs the FAULT arm, an initialisation enters FAULT again, and the commands that
would leave it or start a run are refused. -/
theorem eventEffect_held (h : DefectHeld c s) (defective : cfgCheck c = true) (i : Instr) :
    (eventEffect c i s).ctrlState = stFault ∧ (eventEffect c i s).ident.active = false
      ∧ (eventEffect c i s).out.pwmEn = false := by
  have held := h.held defective
  obtain ⟨code, ibus, pot, per, rfl⟩ | ⟨-, s', e⟩ | start | handover | ctrlReset | rfl | ⟨-, kept⟩ :=
    eventEffect_gates c i s
  · obtain ⟨fault, idle, -⟩ := held
    simp [eventEffect, tick_of_fault c code ibus pot per idle fault, fault, idle]
  · rw [e, initBody_eq]
    exact (resetWith c).held defective
  · rw [h.command_refused defective (.inl start)]; exact held
  · rw [h.command_refused defective (.inr (.inl handover))]; exact held
  · rw [h.command_refused defective (.inr (.inr ctrlReset))]; exact held
  · exact ⟨rfl, rfl, rfl⟩
  · rw [kept.ctrlState, kept.ident, kept.pwmEn]; exact held

theorem eventEffect (h : DefectHeld c s) (i : Instr) : DefectHeld c (eventEffect c i s) where
  flag := by rw [eventEffect_flags_cfgErr, h.flag, ite_self]
  held := fun defective => h.eventEffect_held defective i

end DefectHeld

/-- Settles O57. -/
theorem everyStepHoldsADefectiveInstance : Obligations.EveryStepHoldsADefectiveInstance :=
  step_keeps (fun _ _ h => { h with }) (fun i _ h => h.eventEffect i)

/-! ## The configuration check (rule R176) -/

/-- Two rows of a table are the same when they agree on every channel. -/
theorem ovrRow_eq_iff {v w : OvrRow} : v = w ↔ ∀ ch : Fin 3, v[ch] = w[ch] :=
  ⟨fun same _ => by rw [same], fun same => Vector.ext fun k hk => same ⟨k, hk⟩⟩

theorem pairwise_distinct_iff {t : SixRows} :
    t.toList.Pairwise (· ≠ ·) ↔ ∀ i j : Fin 6, i < j → t[i] ≠ t[j] := by
  simp only [List.pairwise_iff_getElem, Vector.getElem_toList, Vector.length_toList]
  exact ⟨fun h i j => h i j i.isLt j.isLt, fun h i j hi hj => h ⟨i, hi⟩ ⟨j, hj⟩⟩

/-- Defect 9: two of the six rows are the same. -/
theorem constRowsDistinct_eq_false_iff {c : Config} : constRowsDistinct c = false
    ↔ ∃ i j : Fin 6, i < j ∧ ∀ ch : Fin 3, c.bldcConst[i][ch] = c.bldcConst[j][ch] := by
  rw [constRowsDistinct, decide_eq_false_iff_not, pairwise_distinct_iff]
  push Not
  simp only [ovrRow_eq_iff]

theorem piBoundsInverted_iff {k : PiConfig} : piBoundsInverted k = true ↔ k.outMin.toInt > k.outMax.toInt :=
  decide_eq_true_iff

/-- Settles O11: the nine tests of `CFG_CHECK`, one by one. -/
theorem cfgCheckFindsExactlyNineDefects : Obligations.CfgCheckFindsExactlyNineDefects := by
  intro c
  have zero : ∀ {w : Nat} (x : BitVec w), x = 0 ↔ x.toNat = 0 := fun x => by rw [← BitVec.toNat_inj]; simp
  simp only [cfgCheck, Bool.or_eq_true, piBoundsInverted_iff, beq_iff_eq, zero, decide_eq_true_iff, Bool.not_eq_true',
    constRowsDistinct_eq_false_iff, or_assoc]

/-! ## Events and commands -/

/-- Settles O13. -/
theorem readWritesOnlyRdData : Obligations.ReadWritesOnlyRdData := by
  refine fun a s => ⟨exec_eq_next .., ?_⟩
  rintro (unmapped | rfl)
  · exact memRead_unmapped unmapped
  · rfl

/-- Settles O19. -/
theorem emptyEventsChangeNoState : Obligations.EmptyEventsChangeNoState :=
  fun _ => ⟨exec_eq_next .., exec_eq_next .., decode_of_encode_eq rfl rfl, decode_of_encode_eq rfl rfl⟩

/-- Settles O20. -/
theorem reservedCommandsOnlyRaiseBadev : Obligations.ReservedCommandsOnlyRaiseBadev :=
  fun v _ reserved => ⟨decode_encode (i := .cmdRsvd v) (decide_eq_true reserved), exec_eq_next ..⟩

/-- Settles O24: the two cases of `CTRL_RESET`. -/
theorem ctrlResetReturnsToInit : Obligations.CtrlResetReturnsToInit := by
  intro s
  rw [exec_eq_next, eventEffect]
  obtain ⟨barred, refused⟩ | ⟨sound, idle, parked⟩ := ctrlReset_cases s
  · exact ⟨fun _ => by rw [refused]; rfl, fun ⟨sound, idle⟩ => by simp [sound, idle] at barred⟩
  · exact ⟨fun barred => by simp [sound, idle] at barred, fun _ => by rw [parked]; rfl⟩

/-- Settles O25. -/
theorem ctrlFaultIsAlwaysAccepted : Obligations.CtrlFaultIsAlwaysAccepted := fun _ => exec_eq_next ..

end Sys2Proof.Machine
end

section
/-! SUPPORT. The stickiness of the flags (60_exceptions.md, rule R192): what clears no flag, one lemma per operation, and which
event clears which flag. After it the statement on the flags, and the one on a step with no event (rule R199). -/

namespace Sys2Proof.Machine

/-! ## What clears no flag -/

/-- From `s` to `t` no flag is cleared. -/
def FlagsKept (s t : State) : Prop := ∀ f : Flag, flagOf s.flags f = true → flagOf t.flags f = true

/-- Raising a flag leaves every other flag alone. -/
theorem flagOf_setFlag (fl : Flags) (f g : Flag) : flagOf (setFlag fl f) g = (decide (f = g) || flagOf fl g) := by
  cases f <;> cases g <;> rfl

theorem FlagsKept.trans {s t u : State} (h : FlagsKept s t) (k : FlagsKept t u) : FlagsKept s u :=
  fun f set => k f (h f set)

theorem flagsKept_of_eq {s t : State} (same : t.flags = s.flags) : FlagsKept s t := fun _ set => by rw [same, set]

theorem flagsKept_raise (f : Flag) (s : State) : FlagsKept s (raise f s) := fun g set => by
  rw [raise_flags, flagOf_setFlag, set, Bool.or_true]

/-- The handler writes the two sensor flags, each to no less than it was. -/
theorem flagsKept_hallHandler (c : Config) (code : BitVec 3) (s : State) : FlagsKept s (hallHandler c code s) := by
  obtain ⟨h, _, t, e, -, -, -, -, rfl, tmrErr, -⟩ := hallHandler_frame c code s
  rw [e]
  intro f set
  cases f with
  | hallFail => exact Bool.or_inl set
  | tmrErr => exact tmrErr set
  | idFail | idDone | offsDone | cfgErr | badEv => exact set

theorem flagsKept_curStep (c : Config) (s : State) : FlagsKept s (curStep c s) := by
  obtain ⟨u, o, e, offsDone⟩ := curStep_frame c s
  rw [e]
  intro f set
  cases f with
  | offsDone => exact offsDone set
  | hallFail | tmrErr | idFail | idDone | cfgErr | badEv => exact set

theorem flagsKept_tickFront (c : Config) (code : BitVec 3) (ibus pot per : Word) (s : State) :
    FlagsKept s (tickFront c code ibus pot per s) := by
  have latched : FlagsKept s (latchInputs ibus pot per s) := flagsKept_of_eq (latchInputs_flags ..)
  have measured := latched.trans (flagsKept_hallHandler c code _)
  exact (measured.trans (flagsKept_of_eq (speedCalc_flags c _))).trans (flagsKept_curStep c _)

/-- The reading writes `HALLFAIL` and `ID_FAIL`, each to no less than it was: a good sample clears neither. -/
theorem flagsKept_idReading (c : Config) (code : BitVec 3) (v : Fin 6) (s : State) :
    FlagsKept s (idReading c code v s) := by
  rw [idReading_eq]
  intro f set
  cases f with
  | hallFail | idFail => exact Bool.or_inl set
  | tmrErr | idDone | offsDone | cfgErr | badEv => exact set

theorem flagsKept_idVector (c : Config) (code : BitVec 3) (v : Fin 6) (s : State) :
    FlagsKept s (idVector c code v s) := by
  by_cases counts : s.ident.icnt.toNat + 1 < c.idInterval.toNat
  · rw [idVector_counts c code v s counts]
    exact flagsKept_of_eq (idDrive_flags c v s)
  · rw [idVector_reads c code v s counts]
    exact (flagsKept_of_eq (idDrive_flags c v s)).trans (flagsKept_idReading c code v _)

theorem flagsKept_idComplete (s : State) : FlagsKept s (idComplete s) := flagsKept_raise .idDone s

theorem flagsKept_idStep (c : Config) (code : BitVec 3) (s : State) : FlagsKept s (idStep c code s) := by
  obtain ⟨-, e⟩ | ⟨v, -, ⟨-, e⟩ | ⟨-, e⟩⟩ := idStep_cases c code s
  all_goals rw [e]
  · exact flagsKept_idComplete s
  · exact (flagsKept_idVector c code v s).trans (flagsKept_idComplete _)
  · exact flagsKept_idVector c code v s

theorem flagsKept_tick (c : Config) (code : BitVec 3) (ibus pot per : Word) (s : State) :
    FlagsKept s (tick c code ibus pot per s) := by
  have front := flagsKept_tickFront c code ibus pot per s
  cases h : s.ident.active with
  | false => rw [tick_inactive c code ibus pot per s h]; exact front.trans (flagsKept_of_eq (ctrlStep_flags c _))
  | true => rw [tick_active c code ibus pot per s h]; exact front.trans (flagsKept_idStep c code _)

theorem flagsKept_idHandover (s : State) : FlagsKept s (idHandover s) := by
  obtain ⟨-, refused⟩ | ⟨-, ended⟩ := idHandover_cases s
  · rw [refused]; exact flagsKept_raise .badEv s
  · rw [ended]; exact flagsKept_of_eq rfl

theorem flagsKept_tblLoadId (s : State) : FlagsKept s (tblLoadId s) := by
  obtain ⟨-, refused⟩ | ⟨-, loaded⟩ := tblLoadId_cases s
  · rw [refused]; exact flagsKept_raise .badEv s
  · rw [loaded]; exact flagsKept_of_eq rfl

theorem flagsKept_ctrlReset (s : State) : FlagsKept s (ctrlReset s) := by
  obtain ⟨-, refused⟩ | ⟨-, -, parked⟩ := ctrlReset_cases s
  · rw [refused]; exact flagsKept_raise .badEv s
  · rw [parked]; exact flagsKept_of_eq (parkInInit_flags s)

theorem flagsKept_writeRunTable (a : BitVec 8) (v : Word) (s : State) : FlagsKept s (writeRunTable a v s) := by
  unfold writeRunTable
  split
  · exact flagsKept_of_eq rfl
  · exact flagsKept_raise .badEv s

/-! ## What clears a flag (rule R192) -/

/-- The table of rule R192 but for its `INIT` and `RESET`, which clear every flag: the event clears the flag. -/
def Clears (i : Instr) : Flag → Prop
  | .hallFail => ∃ d : Word, i = .wrStatus d ∧ d.getLsbD 0 = true
  | .tmrErr => ∃ d : Word, i = .wrStatus d ∧ d.getLsbD 1 = true
  | .badEv => ∃ d : Word, i = .wrStatus d ∧ d.getLsbD 7 = true
  | .idFail | .idDone => i = .cmdIdStart
  | .offsDone | .cfgErr => False

/-- Write one to clear, for one flag: it stays set, or bit `n` of the data written is 1. -/
theorem writeOneToClear_keeps_or_clears (d : Word) (n : Nat) {old : Bool} (set : old = true) :
    (if d.getLsbD n then false else old) = true ∨ ∃ e : Word, Instr.wrStatus d = .wrStatus e ∧ e.getLsbD n = true := by
  by_cases bit : d.getLsbD n = true
  · exact .inr ⟨d, rfl, bit⟩
  · exact .inl (by rw [if_neg bit, set])

/-- `WR STATUS` clears no flag whose bit of the data is 0, nor any of the four flags without a bit. -/
theorem writeStatus_keeps_or_clears (d : Word) (s : State) (f : Flag) (set : flagOf s.flags f = true) :
    flagOf (writeStatus d s).flags f = true ∨ Clears (.wrStatus d) f := by
  cases f with
  | hallFail => exact writeOneToClear_keeps_or_clears d 0 set
  | tmrErr => exact writeOneToClear_keeps_or_clears d 1 set
  | badEv => exact writeOneToClear_keeps_or_clears d 7 set
  | idFail | idDone | offsDone | cfgErr => exact .inl set

/-- `ID_START`, refused or accepted, clears at most the two flags of the identifier. -/
theorem idStart_keeps_or_clears (c : Config) (s : State) (f : Flag) (set : flagOf s.flags f = true) :
    flagOf (idStart c s).flags f = true ∨ Clears .cmdIdStart f := by
  obtain ⟨-, refused⟩ | ⟨-, started⟩ := idStart_cases c s
  · rw [refused]; exact .inl (flagsKept_raise .badEv s f set)
  · rw [started]
    cases f with
    | idFail | idDone => exact .inr rfl
    | hallFail | tmrErr | offsDone | cfgErr | badEv => exact .inl set

/-- Rule R192: an event other than an initialisation clears no flag but those its row of the table names. -/
theorem eventEffect_keeps_or_clears (c : Config) {i : Instr} (notInit : i ≠ .cmdInit) (notReset : i ≠ .reset) (s : State)
    (f : Flag) (set : flagOf s.flags f = true) : flagOf (eventEffect c i s).flags f = true ∨ Clears i f := by
  cases i with
  | cmdInit | reset => contradiction
  | wrStatus d => exact writeStatus_keeps_or_clears d s f set
  | cmdIdStart => exact idStart_keeps_or_clears c s f set
  | tick code ibus pot per => exact .inl (flagsKept_tick c code ibus pot per s f set)
  | tclk n => exact .inl (flagsKept_of_eq (by rw [eventEffect, tclk_eq]) f set)
  | cmdIdHandover => exact .inl (flagsKept_idHandover s f set)
  | cmdTblLoadId => exact .inl (flagsKept_tblLoadId s f set)
  | cmdCtrlReset => exact .inl (flagsKept_ctrlReset s f set)
  | wrTbl8x lo data => exact .inl (flagsKept_writeRunTable (0x8#4 ++ lo) data s f set)
  | wrTbl9x lo data => exact .inl (flagsKept_writeRunTable (0x24#6 ++ lo) data s f set)
  | wrTbl94 data => exact .inl (flagsKept_writeRunTable 0x94 data s f set)
  | cmdRsvd | wrRo | rsvd => exact .inl (flagsKept_raise .badEv s f set)
  | nopev | cmdNop | cmdTblLoadConst | cmdCtrlFault | wrCtrl | rd => exact .inl set

/-- An initialisation clears every flag and says in `CFGERR` whether the configuration is defective. -/
theorem initBody_flags (c : Config) (s : State) : (initBody c s).flags =
    { hallFail := false, tmrErr := false, idFail := false, idDone := false, offsDone := false, cfgErr := cfgCheck c,
      badEv := false } := by rw [initBody_eq]; rfl

/-- Settles O51: the table of rule R192, read for one flag after the other, then its events one by one. -/
theorem flagsAreSticky : Obligations.FlagsAreSticky := by
  refine ⟨fun i s t h notInit notReset => ?sticky, fun d s => ⟨_, exec_eq_next .., ?writeStatus⟩,
    fun s below => ⟨_, exec_eq_next .., ?idStart⟩, fun i s t init h => ?init,
    fun code ibus pot per s illegal => ⟨_, exec_eq_next .., ?raisedAgain⟩⟩
  case sticky =>
    rw [eq_eventEffect_of_exec h]
    have sticky := eventEffect_keeps_or_clears Config.cfg notInit notReset s
    refine ⟨sticky .hallFail, sticky .tmrErr, sticky .badEv, sticky .idFail, sticky .idDone,
      fun set => (sticky .offsDone set).resolve_right id, ?_⟩
    rw [eventEffect_flags_cfgErr, if_neg (by simp [notInit, notReset])]
  case writeStatus => exact ⟨fun bit => if_pos bit, fun bit => if_pos bit, fun bit => if_pos bit⟩
  case idStart =>
    obtain ⟨faulted, -⟩ | ⟨-, started⟩ := idStart_cases Config.cfg s
    · omega
    · rw [eventEffect, started]; exact ⟨rfl, rfl⟩
  case init =>
    rw [eq_eventEffect_of_exec h]
    obtain rfl | rfl := init
    · exact initBody_flags ..
    · exact initBody_flags ..
  case raisedAgain =>
    rw [eventEffect, tick_flags_hallFail, illegalCode, decide_eq_true illegal, Bool.or_true]

/-! ## Between events (rule R199) -/

/-- With no event presented, the event input answers none. -/
theorem takeEvent_of_inbox_nil {s : State} (h : s.inbox = []) : takeEvent s = none := by simp only [takeEvent, h]

/-- Settles O7. -/
theorem stepWithNoEventChangesNothing : Obligations.StepWithNoEventChangesNothing := by
  intro s empty
  simp only [step, takeEvent_of_inbox_nil empty]

end Sys2Proof.Machine
end
